-- ==== Sys2Proof/Word.lean ====
section
/-! DEFINITION. The octet, the unit of every layout of the manual (00_scope.md, Conventions). -/

namespace Sys2Proof

/-- An octet; bit 0 is the least significant (12_formats_and_worked_sequences.md). -/
abbrev Octet := BitVec 8

/-- Octets in the order they stand on a line or in a layout. -/
abbrev Octets := List Octet

end Sys2Proof
end

