-- ==== Sys2Proof/Syntax.lean ====
section
/-! DEFINITION. The commands of the part, one constructor per row of spec/opcode_table.json. -/

namespace Sys2Proof

/-- The level at a trigger line's input (R152). -/
inductive PinLevel where
  | low
  | high
  deriving DecidableEq, Repr

/-- An octet as the control link's line delivers it: its value, and whether the line reports a framing
fault or an overrun on it (R185). -/
structure LineOctet where
  value : Octet
  fault : Bool
  deriving DecidableEq, Repr

/-- The commands. A row of the table that is a request has no operand: the command is the control
unit's taking of the oldest request of its queue, which holds the tag and the body (R187; log 1). -/
inductive Instr where
  /-- POWER_ON: power comes up; the strap pins read as given (R193). -/
  | powerOn (straps : BitVec 2)
  /-- HARD_RESET: the RESET pin is asserted; the strap pins read as given (R193). -/
  | hardReset (straps : BitVec 2)
  /-- STARTING_END (R193). -/
  | startingEnd
  /-- MESSAGE_RECEIVED: these octets arrive on the control link (R184 to R186). -/
  | messageReceived (octets : List LineOctet)
  /-- UNKNOWN_KIND: the oldest request, of no request kind, is taken (R187). -/
  | unknownKind
  /-- TRANSMITTER_FREE: the message being sent ends (R189). -/
  | transmitterFree
  | svcSet
  | svcDrop
  | svcRead
  | planEdit
  | planCopy
  | planCommit
  | planWithdraw
  | planRead
  | portSet
  | portRenegotiate
  | portRead
  | outputRead
  | directoryRead
  | objOpen
  | objLoad
  | objClose
  | objDrop
  | objRead
  | storeStatus
  | storeClear
  | carAdd
  | carRemove
  | carClear
  | carResume
  | carRead
  | tplErase
  | tplWrite
  | tplLock
  | tplUnlock
  | tplRead
  | trigSet
  | trigRead
  | cueSet
  | cueRead
  | alertRaise
  | alertClear
  | alertList
  | reportSet
  | pendingRead
  | status
  | linkRead
  /-- RESTART: the oldest request, a RESTART, is taken (R85, R194). -/
  | restart
  /-- RESTART_AFTER_ASSEMBLY: a RESTART that waited is carried out (R85). -/
  | restartAfterAssembly
  /-- FRAME_PULL: the modulator pulls a carriage frame (R66 to R70). -/
  | framePull
  /-- STREAM_TAKE: the assembler settles the audio portion it has reached (R74 to R76). -/
  | streamTake
  /-- CELL_REQUEST: the assembler asks the carousel for the cell it has reached (R77, R130). -/
  | cellRequest
  /-- ALERT_CELL_REQUEST: the assembler asks the alert unit for the cell it has reached (R78, R179). -/
  | alertCellRequest
  /-- FRAME_ASSEMBLY_COMPLETE (R73). -/
  | frameAssemblyComplete
  /-- OUTPUT_TRANSMISSION_END (R71). -/
  | outputTransmissionEnd
  /-- STALL_TIMER_EXPIRY (R70). -/
  | stallTimerExpiry
  /-- OFFER_WORD_RECEIVED: the octets of an offer word arrive on a contributor line (R43, R199). -/
  | offerWordReceived (port : Fin 8) (octets : Octets)
  /-- OFFER_WORD_PERIOD: a port's 8 ms period expires (R42). -/
  | offerWordPeriod (port : Fin 8)
  /-- LISTEN_TIMER_EXPIRY (R49). -/
  | listenTimerExpiry (port : Fin 8)
  /-- LINK_TIMER_EXPIRY (R52). -/
  | linkTimerExpiry (port : Fin 8)
  /-- CONTRIBUTION_FRAME: the octets of a contribution frame arrive on a contributor line (R53, R199). -/
  | contributionFrame (port : Fin 8) (octets : Octets)
  /-- TRIGGER_RAW_CHANGE: a trigger line's raw level becomes the one given (R153). -/
  | triggerRawChange (line : Fin 4) (level : PinLevel)
  /-- FILTER_TIMER_EXPIRY (R153). -/
  | filterTimerExpiry (line : Fin 4)
  /-- ALERT_TIMER_EXPIRY: the remaining time of the alert with this number reaches 0 (R173). -/
  | alertTimerExpiry (number : Octet)
  /-- ERASE_END (R143). -/
  | eraseEnd
  /-- WRITE_END (R144). -/
  | writeEnd
  /-- BIT_FAULT: bits of a stored group change by themselves (R101). Bits 0 to 127 are those of the 16
  octets (bit k of octet j is 8j + k); 128 upward are those of the check code (log 12). -/
  | bitFault (page : Fin 1024) (group : Fin 32) (bits : List Nat)
  /-- LOSS_OF_POWER (R71, R140). -/
  | lossOfPower
  deriving DecidableEq, Repr

end Sys2Proof
end

