-- ==== Sys2Proof/Decode.lean ====
section
/-! DEFINITION. Words that spell commands: the table gives no row any bits, so no word spells one. -/

namespace Sys2Proof

/-- The command that a word spells by the table's bits: none, since every row of
spec/opcode_table.json has an empty list of fields and no fixed bits. -/
def decodeTableWord (_nbits _w : Nat) : Option Instr := none

end Sys2Proof
end

