-- ==== Sys2Proof/Config.lean ====
section
/-! DEFINITION. What the manual leaves open and the model leaves free: the reading of a badly damaged
group of the object store (R101; log 11), and the check of a template's content (R140; log 28). -/

namespace Sys2Proof

/-- The three outcomes of reading a group of the object store (R101). -/
inductive ReadOutcome where
  | clean
  | correctable
  | uncorrectable
  deriving DecidableEq, Repr, Inhabited

/-- R101: "A group in which three or more bits differ from what was written may read with any of the
three outcomes". A free value: nothing says which, for the octets as they stand and the bits that
differ (log 11). -/
opaque Config.manyBitOutcome (stands : Octets) (differing : List Nat) : ReadOutcome

/-- The octets that a group with three or more differing bits is "put right" to, when it reads
correctable. A free value (log 11). -/
opaque Config.manyBitCorrection (stands : Octets) (differing : List Nat) : Fin 16 → Octet

/-- R140: the check "computed by the store when the content is written". A free value: the manual gives
neither its width nor its computation, and it is the same for the same content octets (log 28). -/
opaque Config.templateCheck (content : Octets) : Nat

end Sys2Proof
end

