-- ==== Sys2Proof/Machine/State.lean ====
section
/-! DEFINITION. The state of the part as plain data, block by block, and its value right after power-on.
Every field stands in INVENTORY.md, under "State", with its rule and its reset value. -/

namespace Sys2Proof.Machine

/-- A timer of the 1 ms time base: stopped (none), or running with the milliseconds left (log 3). -/
abbrev Timer := Option Nat

/-- A stream of a contributor port, written (port, stream) in the manual. -/
structure Stream where
  port : Fin 8
  number : Fin 4
  deriving DecidableEq, Repr

/-- The six audio carriage formats, codes 1 to 6 (00_scope.md, Terms). -/
inductive Format where
  | a24 | a48 | a72 | a96 | a120 | a144
  deriving DecidableEq, Repr

/-! ### Service table (R1) -/

inductive ServiceKind where
  | audio
  | data
  deriving DecidableEq, Repr

/-- The fields of a DEFINED service record (R1). -/
structure Service where
  id : BitVec 16
  shortName : Octets
  longName : Option Octets
  kind : ServiceKind
  binding : Option Stream
  protection : Fin 8
  regions : BitVec 16
  deriving DecidableEq, Repr

/-- The 32 records; none is UNUSED (R1). Also the view of R10. -/
abbrev ServiceTable := Vector (Option Service) 32

/-! ### Plan unit (R16 to R19, R32) -/

structure PlanEntry where
  service : Fin 32
  start : Nat
  length : Nat
  share : Nat
  deriving DecidableEq, Repr

structure Plan where
  active : List PlanEntry
  number : BitVec 8
  staged : List PlanEntry
  /-- The countdown while COMMITTED; none is OPEN (R19). -/
  countdown : Option Nat
  withdrawn : Nat
  deriving DecidableEq, Repr

/-! ### Contributor ports (R38, R39) -/

structure PortConfig where
  enabled : Bool
  permitted : BitVec 6
  interval : Nat
  sensing : Bool
  deriving DecidableEq, Repr

inductive PortState where
  | disabled | listen | offering | acking | locked | sensed | noCommon
  deriving DecidableEq, Repr

/-- An offer word's fields (R42, R199). Bit n - 1 of the set is format code n. -/
structure OfferWord where
  formats : BitVec 6
  streams : Nat
  ack : Bool
  deriving DecidableEq, Repr

/-- The progress of negotiation (R44 to R47). The closing count is none before completion, and then
the number of closing words sent. -/
structure Exchange where
  previous : Option OfferWord
  matched : Nat
  acked : Nat
  closing : Option Nat
  deriving DecidableEq, Repr

/-- What a stream queue holds for a frame (R56). -/
structure QueuedFrame where
  payload : Octets
  format : Format
  sequence : Octet
  deriving DecidableEq, Repr

/-- The six counters of R61. -/
structure PortCounters where
  checkFailures : BitVec 16
  formatMismatches : BitVec 16
  sequenceGaps : BitVec 16
  overruns : BitVec 16
  underruns : BitVec 16
  linkLosses : BitVec 16
  deriving DecidableEq, Repr

structure Port where
  config : PortConfig
  state : PortState
  format : Option Format
  streams : Option Nat
  exchange : Exchange
  listenTimer : Timer
  linkTimer : Timer
  /-- The 8 ms offer word period (R42). -/
  period : Timer
  candidate : Option Format
  sequences : Vector (Option Octet) 4
  queues : Vector (List QueuedFrame) 4
  counters : PortCounters
  /-- The octets of the item in progress on the line (R199; log 15). -/
  line : Octets
  /-- The last offer word sent on the return line (R42; log 23). -/
  sent : Option OfferWord
  deriving DecidableEq, Repr

/-! ### Alert content, templates (R140 to R149) -/

/-- The content of an alert, and of a template but for its check (R140, R166). Duration in seconds, 0
unlimited. -/
structure AlertContent where
  level : Fin 8
  regions : BitVec 16
  stream : Option Stream
  duration : Nat
  text : Octets
  deriving DecidableEq, Repr

/-- The content of a WRITTEN slot: with its check, as the store computed it at the end of the write (R140,
R144; log 28). -/
structure TemplateContent extends AlertContent where
  check : Nat
  deriving DecidableEq, Repr

/-- A slot's state; a WRITING slot has the content of its request, and a WRITTEN slot its content (R140,
R144). -/
inductive SlotState where
  | blank
  | erasing
  | writing (content : AlertContent)
  | written (content : TemplateContent)
  | damaged
  deriving DecidableEq, Repr

inductive Lock where
  | none | held | fixed
  deriving DecidableEq, Repr

structure Slot where
  state : SlotState
  lock : Lock
  deriving DecidableEq, Repr

/-- A mirror entry; a WRITTEN one holds a copy of the slot's content (R149). -/
inductive MirrorEntry where
  | blank
  | damaged
  | written (content : TemplateContent)
  deriving DecidableEq, Repr

inductive OperationKind where
  | erase | write
  deriving DecidableEq, Repr

structure Operation where
  kind : OperationKind
  slot : Fin 16
  timer : Nat
  deriving DecidableEq, Repr

structure TemplateStore where
  slots : Vector Slot 16
  operation : Option Operation
  mirror : Vector MirrorEntry 16
  deriving DecidableEq, Repr

/-! ### Trigger lines and cue filters (R152, R160) -/

inductive EdgeSetting where
  | rising | falling | both
  deriving DecidableEq, Repr

inductive LineMode where
  | pulse | held
  deriving DecidableEq, Repr

/-- What a source falls back to when its template is unusable, and the template it names (R152, R160). -/
structure SourceContent where
  slot : Fin 16
  level : Fin 8
  regions : BitVec 16
  deriving DecidableEq, Repr

structure LineConfig where
  enabled : Bool
  edge : EdgeSetting
  mode : LineMode
  source : SourceContent
  filterTime : Nat
  deriving DecidableEq, Repr

structure TriggerLine where
  config : LineConfig
  raw : PinLevel
  /-- The settled level; none is UNKNOWN (R152). -/
  settled : Option PinLevel
  timer : Timer
  pending : Bool
  deriving DecidableEq, Repr

/-- A segment; its length is that of its pattern and of its mask (R160). -/
structure Segment where
  offset : Nat
  pattern : Octets
  mask : Octets
  deriving DecidableEq, Repr

structure CueConfig where
  enabled : Bool
  port : Fin 8
  /-- The stream, or none for ANY. -/
  stream : Option (Fin 4)
  /-- True for RAISE, false for REPORT. -/
  raises : Bool
  source : SourceContent
  segments : List Segment
  deriving DecidableEq, Repr

structure CueFilter where
  config : CueConfig
  hits : BitVec 16
  deriving DecidableEq, Repr

/-! ### Alert unit (R166 to R168, R175, R176) -/

inductive Origin where
  | host
  | trigger (line : Fin 4)
  | cue (filter : Fin 4)
  deriving DecidableEq, Repr

inductive EndReason where
  | cleared | expired | released
  deriving DecidableEq, Repr

/-- IN_FORCE, or ENDING with its reason and frames left (R166). -/
inductive AlertState where
  | inForce
  | ending (reason : EndReason) (framesLeft : Nat)
  deriving DecidableEq, Repr

/-- An admission stamp (R166, R167). -/
abbrev Stamp := BitVec 32

structure Alert where
  number : Octet
  stamp : Stamp
  origin : Origin
  content : AlertContent
  /-- Milliseconds left (R173); unused for duration 0. -/
  remaining : Nat
  state : AlertState
  deriving DecidableEq, Repr

structure AlertUnit where
  alerts : List Alert
  lastNumber : Octet
  counter : BitVec 32
  /-- The ALERT_ACTIVE output line (R168). -/
  active : Bool
  /-- Taker records; none is OWN (R176). -/
  takers : Vector (Option Stamp) 32
  cursors : Vector (Fin 8) 32
  /-- The decision of the last new start for each service (R175, R181). -/
  decision : Vector (Option Stamp) 32
  deriving DecidableEq, Repr

/-! ### Object store (R101 to R103, R115) -/

/-- The page memory: (address, octet) pairs, addresses strictly rising, none listed with the octet an
unlisted address reads as (log 9). Octet a stands in page a / 512. -/
abbrev Memory := List Host.Cell

inductive ObjectKind where
  | text | picture
  deriving DecidableEq, Repr

inductive ObjectState where
  | loading | ready | faulted
  deriving DecidableEq, Repr

/-- An object that is not FREE (R103). -/
structure StoredObject where
  state : ObjectState
  kind : ObjectKind
  declared : Nat
  loaded : Nat
  tail : Octets
  pages : List Nat
  references : Nat
  deriving DecidableEq, Repr

/-- A capture's contents (R115). The object is held by its number. -/
structure Capture where
  page : Nat
  group : Nat
  object : Nat
  deriving DecidableEq, Repr

structure ObjectStore where
  memory : Memory
  /-- The (group, bit) pairs that differ from what was written; group g of page p is 32p + g (log 10). -/
  differing : List (Nat × Nat)
  /-- The free pool, ascending (R102). -/
  free : List Nat
  /-- Object n is element n - 1; none is FREE (R103). -/
  objects : Vector (Option StoredObject) 128
  corrected : BitVec 4
  uncorrectable : BitVec 4
  correctedCapture : Option Capture
  uncorrectableCapture : Option Capture
  deriving DecidableEq, Repr

/-! ### Carousels (R120, R121) -/

structure CarouselEntry where
  id : Fin 256
  /-- The object's element in the table: its number less 1. -/
  object : Fin 128
  repeats : Nat
  hold : Bool
  notify : Bool
  once : Bool
  deriving DecidableEq, Repr

inductive LanePhase where
  | empty | running | held
  deriving DecidableEq, Repr

/-- An owed ABANDON; its kind is the kind of its lane (R120). -/
structure Abandon where
  object : Nat
  index : Nat
  deriving DecidableEq, Repr

structure Lane where
  phase : LanePhase
  entries : List CarouselEntry
  current : Option (Fin 256)
  cursor : Nat
  done : Nat
  owed : Option Abandon
  deriving DecidableEq, Repr

structure Carousel where
  text : Lane
  picture : Lane
  deriving DecidableEq, Repr

/-! ### Directory unit (R87 to R89) -/

inductive ItemKind where
  | service | longname | nextrun
  deriving DecidableEq, Repr

/-- What identifies an item (R90). -/
structure ItemKey where
  kind : ItemKind
  service : Fin 32
  deriving DecidableEq, Repr

structure Run where
  start : Nat
  length : Nat
  share : Nat
  deriving DecidableEq, Repr

structure FrameEntry where
  count : BitVec 16
  plan : BitVec 8
  countdown : Nat
  levels : BitVec 8
  regions : BitVec 16
  deriving DecidableEq, Repr

structure ServiceItem where
  id : BitVec 16
  shortName : Octets
  kind : ServiceKind
  run : Run
  source : Option Stream
  format : Option Format
  deriving DecidableEq, Repr

structure AlertItem where
  number : Octet
  origin : Origin
  level : Fin 8
  regions : BitVec 16
  state : AlertState
  seconds : Nat
  textLength : Nat
  deriving DecidableEq, Repr

/-- What a directory slot carries (R87, R88). -/
inductive SlotItem where
  | empty
  | service (item : ServiceItem)
  | longname (id : BitVec 16) (name : Octets)
  | nextrun (id : BitVec 16) (kind : ServiceKind) (run : Run)
  | frame (entry : FrameEntry)
  | alert (item : AlertItem)
  | next (countdown : Nat) (entries : Nat) (coming : BitVec 8)
  | withdrawn (plan : BitVec 8) (left : Nat)
  deriving DecidableEq, Repr

structure Directory where
  /-- The rotation list with each item's last contents (R89). -/
  rotation : List (ItemKey × SlotItem)
  fresh : List ItemKey
  cursor : Nat
  mark : Option Stamp
  restarted : Bool
  superseded : BitVec 16
  deriving DecidableEq, Repr

/-! ### Assembler and output link (R65) -/

/-- The kinds of a data cell's header (R132, R200). -/
inductive CellKind where
  | text | picture | alert
  deriving DecidableEq, Repr

structure CellHeader where
  number : Octet
  kind : CellKind
  first : Bool
  last : Bool
  abandon : Bool
  index : Nat
  deriving DecidableEq, Repr

/-- A cell that is not fill: 36 octets of audio payload, or a header and 32 octets. -/
inductive Cell where
  | audio (octets : Octets)
  | data (header : CellHeader) (octets : Octets)
  deriving DecidableEq, Repr

/-- A carriage frame (R200). The cells are listed with their numbers; a cell not listed is fill. -/
structure CarriageFrame where
  resent : Bool
  count : BitVec 16
  plan : BitVec 8
  slots : List SlotItem
  cells : List (Nat × Cell)
  deriving DecidableEq, Repr

/-- The alert text held for a taken run (R177). -/
structure TextHold where
  number : Octet
  text : Octets
  deriving DecidableEq, Repr

/-- A run of the frame being assembled, with what its start fixed: its audio source (R74) and, when
taken, the alert text held for it (R72, R177). -/
structure FrameRun where
  service : Fin 32
  run : Run
  source : Option Stream
  taken : Option TextHold
  deriving DecidableEq, Repr

/-- The progress of an assembly: the runs not yet finished, whether the first of them has its audio
portion placed, how many of its data-share cells are placed, and the answers of the takes made (R75). -/
structure Progress where
  runs : List FrameRun
  audioDone : Bool
  cellsDone : Nat
  answers : List (Stream × Option QueuedFrame)
  deriving DecidableEq, Repr

inductive FrameBuffer where
  | empty
  | lastSent (frame : CarriageFrame)
  | assembling (frame : CarriageFrame) (progress : Progress)
  | complete (frame : CarriageFrame)
  deriving DecidableEq, Repr

inductive OutputState where
  | waiting | running | stalled
  deriving DecidableEq, Repr

inductive LinkCondition where
  | idle | sending
  deriving DecidableEq, Repr

structure Output where
  state : OutputState
  bufferA : FrameBuffer
  bufferB : FrameBuffer
  count : BitVec 16
  link : LinkCondition
  stallTimer : Timer
  repeats : BitVec 16
  stalls : BitVec 16
  earlyPulls : BitVec 16
  fitFaults : Vector (BitVec 16) 32
  deriving DecidableEq, Repr

/-! ### Control unit (R184 to R196) -/

/-- The reply codes of R188. -/
inductive ReplyCode where
  | done | accepted | busy | queueFull | unknownKind | badForm
  | range | overlap | noService | inPlan | onAir | boundElsewhere | notCommitted | tooLate
  | storeFull | tableFull | outOfOrder | short | notReady | inUse | entriesFull | notHeld
  | locked | notBlank | listFull | noAlert | alreadyEnding | noObject | wrongState
  deriving DecidableEq, Repr

/-- A well-formed request as received (R184, R186). -/
structure Request where
  kind : Octet
  tag : Octet
  body : Octets
  deriving DecidableEq, Repr

structure Reply where
  kind : Octet
  tag : Octet
  code : ReplyCode
  result : Octets
  deriving DecidableEq, Repr

/-- A message on its way out (R197). -/
structure Message where
  kind : Octet
  tag : Octet
  body : Octets
  deriving DecidableEq, Repr

/-- The 24 report sources, in index order (R190). -/
inductive ReportSource where
  | alertAdmitted | alertEnded | alertLost | templateUnusable | templateDone | trigger | cueMatch
  | planSwitched | portLocked | portLost | portNoCommon | negotiationTimeout
  | streamUnderrun | streamOverrun | fitFault | objectFaulted | storeCorrected
  | carouselNotify | carouselHeld | frameLate | outputStalled | linkFormFault
  | directorySuperseded | ready
  deriving DecidableEq, Repr

structure ReportRecord where
  level : Fin 8
  pending : Bool
  count : BitVec 8
  detail : Octets
  deriving DecidableEq, Repr

inductive ControlPhase where
  | starting | ready
  deriving DecidableEq, Repr

inductive StartCause where
  | powerOn | hardReset | restart
  deriving DecidableEq, Repr

/-- The six link fault counters (R195). -/
structure LinkFaults where
  length : BitVec 16
  check : BitVec 16
  line : BitVec 16
  dropped : BitVec 16
  badForm : BitVec 16
  unknownKind : BitVec 16
  deriving DecidableEq, Repr

structure Control where
  phase : ControlPhase
  startTimer : Timer
  cause : StartCause
  straps : BitVec 2
  /-- The octets held from the lead octet of the message in progress; none in HUNT (R184). -/
  receiver : List LineOctet
  requests : List Request
  /-- The tag of a RESTART that waits for an assembly to complete (R194). -/
  restarting : Option Octet
  replies : List Reply
  transmitter : Option Message
  reports : Vector ReportRecord 24
  faults : LinkFaults
  deriving DecidableEq, Repr

/-! ### The whole part -/

/-- The state of the part, and the commands that wait. -/
structure State where
  powered : Bool
  control : Control
  services : ServiceTable
  plan : Plan
  ports : Vector Port 8
  cues : Vector CueFilter 4
  lines : Vector TriggerLine 4
  templates : TemplateStore
  alerts : AlertUnit
  store : ObjectStore
  carousels : Vector Carousel 32
  directory : Directory
  output : Output
  pending : List Instr
  deriving DecidableEq, Repr

/-- Why a step could stop with a fault: never. The manual gives the part no event that stops it (R79),
so there is no constructor; nobody raises one. -/
inductive Fault where
  deriving DecidableEq, Repr

/-- Why a command could be refused. -/
inductive Refusal where
  /-- Raised by exec for a command that has no meaning yet; none is left. Safe. -/
  | notModelled (mnemonic : String)
  deriving DecidableEq, Repr

/-- The outcome of a command. -/
abbrev Result := Host.Outcome State Fault Refusal

/-! ### Setters, one per block. Their lemmas are in Laws/State.lean. -/

def State.withPowered (s : State) (x : Bool) : State := { s with powered := x }
def State.withControl (s : State) (x : Control) : State := { s with control := x }
def State.withServices (s : State) (x : ServiceTable) : State := { s with services := x }
def State.withPlan (s : State) (x : Plan) : State := { s with plan := x }
def State.withPorts (s : State) (x : Vector Port 8) : State := { s with ports := x }
def State.withCues (s : State) (x : Vector CueFilter 4) : State := { s with cues := x }
def State.withLines (s : State) (x : Vector TriggerLine 4) : State := { s with lines := x }
def State.withTemplates (s : State) (x : TemplateStore) : State := { s with templates := x }
def State.withAlerts (s : State) (x : AlertUnit) : State := { s with alerts := x }
def State.withStore (s : State) (x : ObjectStore) : State := { s with store := x }
def State.withCarousels (s : State) (x : Vector Carousel 32) : State := { s with carousels := x }
def State.withDirectory (s : State) (x : Directory) : State := { s with directory := x }
def State.withOutput (s : State) (x : Output) : State := { s with output := x }
def State.withPending (s : State) (x : List Instr) : State := { s with pending := x }

/-! ### Values at power-on, block by block -/

/-- The default report levels, in index order (R190). -/
def Control.defaultLevels : Vector (Fin 8) 24 :=
  #v[7, 7, 7, 6, 3, 6, 5, 5, 3, 5, 5, 2, 2, 2, 4, 4, 1, 2, 2, 4, 6, 1, 1, 7]

/-- A cleared record (R193; the zero detail: log 24). -/
def ReportRecord.cleared (level : Fin 8) : ReportRecord :=
  { level := level, pending := false, count := 0, detail := List.replicate 8 0 }

def LinkFaults.zero : LinkFaults :=
  { length := 0, check := 0, line := 0, dropped := 0, badForm := 0, unknownKind := 0 }

/-- R193: STARTING for 30 ms, everything empty and idle, default levels. -/
def Control.initial (straps : BitVec 2) (cause : StartCause) : Control :=
  { phase := .starting
    startTimer := some 30
    cause := cause
    straps := straps
    receiver := []
    requests := []
    restarting := none
    replies := []
    transmitter := none
    reports := ⟨(Control.defaultLevels.toList.map ReportRecord.cleared).toArray, by decide⟩
    faults := LinkFaults.zero }

/-- R34. -/
def Plan.initial : Plan :=
  { active := [], number := 0, staged := [], countdown := none, withdrawn := 0 }

/-- R39. -/
def PortConfig.initial : PortConfig :=
  { enabled := false, permitted := 0x3F, interval := 1000, sensing := true }

def Exchange.cleared : Exchange :=
  { previous := none, matched := 0, acked := 0, closing := none }

def PortCounters.zero : PortCounters :=
  { checkFailures := 0, formatMismatches := 0, sequenceGaps := 0, overruns := 0, underruns := 0,
    linkLosses := 0 }

/-- R63. -/
def Port.initial : Port :=
  { config := PortConfig.initial
    state := .disabled
    format := none
    streams := none
    exchange := Exchange.cleared
    listenTimer := none
    linkTimer := none
    period := none
    candidate := none
    sequences := Vector.replicate 4 none
    queues := Vector.replicate 4 []
    counters := PortCounters.zero
    line := []
    sent := none }

/-- The power-on template slot and fallback settings (R152, R164). -/
def SourceContent.initial : SourceContent :=
  { slot := 0, level := 7, regions := 0xFFFF }

/-- R164. -/
def CueFilter.initial : CueFilter :=
  { config :=
      { enabled := false, port := 0, stream := some 0, raises := false
        source := SourceContent.initial
        segments := [{ offset := 0, pattern := [0], mask := [0] }] }
    hits := 0 }

/-- R152, R164; the raw level is that of the input. That the first sampling, with which the filter timer
starts, is at the power-on or hard reset itself is the model's choice (log 36). -/
def TriggerLine.initial (raw : PinLevel) : TriggerLine :=
  { config :=
      { enabled := false, edge := .rising, mode := .pulse, source := SourceContent.initial
        filterTime := 20 }
    raw := raw
    settled := none
    timer := some 20
    pending := false }

/-- R183. -/
def AlertUnit.initial : AlertUnit :=
  { alerts := []
    lastNumber := 0
    counter := 0
    active := false
    takers := Vector.replicate 32 none
    cursors := Vector.replicate 32 0
    decision := Vector.replicate 32 none }

/-- R118; the memory's first contents: log 9. -/
def ObjectStore.initial : ObjectStore :=
  { memory := []
    differing := []
    free := List.range 1024
    objects := Vector.replicate 128 none
    corrected := 0
    uncorrectable := 0
    correctedCapture := none
    uncorrectableCapture := none }

/-- R139. -/
def Lane.initial : Lane :=
  { phase := .empty, entries := [], current := none, cursor := 0, done := 0, owed := none }

def Carousel.initial : Carousel := { text := Lane.initial, picture := Lane.initial }

/-- R98. -/
def Directory.initial : Directory :=
  { rotation := [], fresh := [], cursor := 0, mark := none, restarted := false, superseded := 0 }

/-- R84. -/
def Output.initial : Output :=
  { state := .waiting
    bufferA := .empty
    bufferB := .empty
    count := 0
    link := .idle
    stallTimer := none
    repeats := 0
    stalls := 0
    earlyPulls := 0
    fitFaults := Vector.replicate 32 0 }

/-- The template store as new: every slot BLANK and not locked (log 7). -/
def TemplateStore.blank : TemplateStore :=
  { slots := Vector.replicate 16 { state := .blank, lock := .none }
    operation := none
    mirror := Vector.replicate 16 .blank }

/-- The part right after power-on (log 6). -/
def State.reset : State :=
  { powered := true
    control := Control.initial 0 .powerOn
    services := Vector.replicate 32 none
    plan := Plan.initial
    ports := Vector.replicate 8 Port.initial
    cues := Vector.replicate 4 CueFilter.initial
    lines := Vector.replicate 4 (TriggerLine.initial .low)
    templates := TemplateStore.blank
    alerts := AlertUnit.initial
    store := ObjectStore.initial
    carousels := Vector.replicate 32 Carousel.initial
    directory := Directory.initial
    output := Output.initial
    pending := [] }

end Sys2Proof.Machine
end

