-- ==== Sys2Proof/Machine/Ops.lean ====
section
/-! DEFINITION. Operations every block uses: octets and quantities, saturating counters, timers, tables,
check codes, and the page memory. -/

namespace Sys2Proof.Machine

/-! ### Quantities and octets: most significant octet first (12, opening) -/

def octet (n : Nat) : Octet := BitVec.ofNat 8 n

def be16 (n : Nat) : Octets := [octet (n / 256), octet n]

def be32 (n : Nat) : Octets := [octet (n / 16777216), octet (n / 65536), octet (n / 256), octet n]

def flagOctet (b : Bool) : Octet := if b then 1 else 0

/-- The one-octet quantity at octet i of a body. -/
def field (b : Octets) (i : Nat) : Nat := (b.getD i 0).toNat

/-- The two-octet quantity at octet i of a body. -/
def field16 (b : Octets) (i : Nat) : Nat := field b i * 256 + field b (i + 1)

/-- The n octets of a body from octet i on. -/
def span (b : Octets) (i n : Nat) : Octets := (b.drop i).take n

/-- Octets laid out in n octets, the rest 0x00 (12, opening). -/
def padTo (n : Nat) (b : Octets) : Octets := (b ++ List.replicate n 0).take n

/-! ### Saturating counters (00_scope.md, Counters) -/

/-- One more, or the maximum once it is reached. -/
def satInc {w : Nat} (c : BitVec w) : BitVec w := if c = BitVec.allOnes w then c else c + 1

/-! ### Timers (log 3) -/

/-- One millisecond passes on a timer. -/
def Timer.tick (t : Timer) : Timer := t.map (· - 1)

/-- The time of a running timer has passed: the condition of every timer's expiry (log 4). -/
def Timer.due (t : Timer) : Bool := decide (t = some 0)

/-! ### Tables -/

/-- The number as an index below k, if it is one. -/
def toFin? (k n : Nat) : Option (Fin k) := if h : n < k then some ⟨n, h⟩ else none

/-- The element of the object table that an object number names (R103). -/
def objectIndex? (n : Nat) : Option (Fin 128) := if n = 0 then none else toFin? 128 (n - 1)

def objectNumber (o : Fin 128) : Nat := o.val + 1

/-- A table with one element changed. -/
def updateAt {α : Type} {n : Nat} (v : Vector α n) (i : Fin n) (f : α → α) : Vector α n :=
  v.set i (f v[i])

/-- A table with every element changed. -/
def mapTable {α β : Type} {n : Nat} (f : α → β) (v : Vector α n) : Vector β n :=
  ⟨(v.toList.map f).toArray, by simp⟩

/-- The lowest number below n that is not used. -/
def lowestUnused (n : Nat) (used : List Nat) : Option Nat :=
  (List.range n).find? fun k => !used.contains k

/-! ### Check codes (R197, R199, R200) -/

/-- One bit into a cyclic redundancy register, most significant bit first. -/
def crcBit {w : Nat} (generator register : BitVec w) (b : Bool) : BitVec w :=
  if (register.msb ^^ b) then (register <<< 1) ^^^ generator else register <<< 1

def crcOctet {w : Nat} (generator register : BitVec w) (o : Octet) : BitVec w :=
  [7, 6, 5, 4, 3, 2, 1, 0].foldl (fun r k => crcBit generator r (o.getLsbD k)) register

/-- A number handed on already evaluated, so that long check codes can be computed by the kernel. -/
def evaluated {α : Type} (n : Nat) (k : Nat → α) : α :=
  match n with
  | 0 => k 0
  | m + 1 => k (m + 1)

/-- The register after these octets. -/
def crcFrom {w : Nat} (generator register : BitVec w) : Octets → BitVec w
  | [] => register
  | o :: rest =>
    evaluated (crcOctet generator register o).toNat fun n => crcFrom generator (BitVec.ofNat w n) rest

/-- The check of a message and of a contribution frame (R197, R199). -/
def check16 (b : Octets) : BitVec 16 := crcFrom 0x1021 0xFFFF b

/-- The check of an offer word (R199), most significant bit of an octet first (log 35). -/
def check8 (b : Octets) : BitVec 8 := crcFrom 0x07 0x00 b

/-- The check of a carriage frame (R200). -/
def check32 (b : Octets) : BitVec 32 := ~~~ crcFrom 0x04C11DB7 0xFFFFFFFF b

/-! ### The page memory (R101; log 9) -/

/-- What an octet that is not listed reads as (log 9). -/
def Memory.unlisted : Octet := 0

def Memory.read (m : Memory) (a : Nat) : Octet :=
  match m with
  | [] => Memory.unlisted
  | (b, v) :: rest => if a = b then v else Memory.read rest a

/-- The list with this octet in front, unless it is what an unlisted octet reads as. -/
def Memory.list (m : Memory) (a : Nat) (v : Octet) : Memory :=
  if v = Memory.unlisted then m else (a, v) :: m

def Memory.write (m : Memory) (a : Nat) (v : Octet) : Memory :=
  match m with
  | [] => Memory.list [] a v
  | (b, w) :: rest =>
    if a < b then Memory.list ((b, w) :: rest) a v
    else if a = b then Memory.list rest a v
    else (b, w) :: Memory.write rest a v

/-- The octets written from address a upward. -/
def Memory.writeAll (m : Memory) (a : Nat) : Octets → Memory
  | [] => m
  | v :: rest => Memory.writeAll (Memory.write m a v) (a + 1) rest

/-- The n octets from address a upward. -/
def Memory.readAll (m : Memory) (a n : Nat) : Octets := (List.range n).map fun i => Memory.read m (a + i)

/-- Every octet of the pages given set to 0x00. -/
def Memory.clearPages (m : Memory) (pages : List Nat) : Memory :=
  m.filter fun c => !pages.contains (c.1 / 512)

/-- The canonical form from address lo on. -/
def Memory.wfFrom (lo : Nat) : Memory → Bool
  | [] => true
  | (a, v) :: rest => decide (lo ≤ a) && decide (v ≠ Memory.unlisted) && Memory.wfFrom (a + 1) rest

/-- The canonical form: addresses strictly rising, and nothing listed that reads as unlisted. -/
def Memory.wf (m : Memory) : Bool := Memory.wfFrom 0 m

end Sys2Proof.Machine
end

