-- ==== Sys2Proof/Machine/Operands.lean ====
section
/-! DEFINITION. The operands of requests: kind codes, body sizes, and the fields of the bodies with the
ranges their chapters give. A reader that answers none has met a field out of its range. -/

namespace Sys2Proof.Machine

/-! ### Kinds and body sizes (R197) -/

/-- The request a kind code names, with the least and the greatest size of its body. -/
def requestRow (kind : Octet) : Option (Instr × Nat × Nat) :=
  match kind.toNat with
  | 0x10 => some (.svcSet, 36, 36)
  | 0x11 => some (.svcDrop, 1, 1)
  | 0x12 => some (.svcRead, 1, 1)
  | 0x20 => some (.planEdit, 7, 7)
  | 0x21 => some (.planCopy, 0, 0)
  | 0x22 => some (.planCommit, 1, 1)
  | 0x23 => some (.planWithdraw, 0, 0)
  | 0x24 => some (.planRead, 1, 1)
  | 0x30 => some (.portSet, 6, 6)
  | 0x31 => some (.portRenegotiate, 1, 1)
  | 0x32 => some (.portRead, 1, 1)
  | 0x38 => some (.outputRead, 0, 0)
  | 0x39 => some (.directoryRead, 0, 0)
  | 0x40 => some (.objOpen, 3, 3)
  | 0x41 => some (.objLoad, 4, 1027)
  | 0x42 => some (.objClose, 1, 1)
  | 0x43 => some (.objDrop, 2, 2)
  | 0x44 => some (.objRead, 5, 5)
  | 0x45 => some (.storeStatus, 0, 0)
  | 0x46 => some (.storeClear, 0, 0)
  | 0x50 => some (.carAdd, 6, 6)
  | 0x51 => some (.carRemove, 1, 1)
  | 0x52 => some (.carClear, 2, 2)
  | 0x53 => some (.carResume, 2, 2)
  | 0x54 => some (.carRead, 2, 2)
  | 0x60 => some (.tplErase, 1, 1)
  | 0x61 => some (.tplWrite, 250, 250)
  | 0x62 => some (.tplLock, 2, 2)
  | 0x63 => some (.tplUnlock, 1, 1)
  | 0x64 => some (.tplRead, 1, 1)
  | 0x68 => some (.trigSet, 9, 9)
  | 0x69 => some (.trigRead, 0, 0)
  | 0x6A => some (.cueSet, 82, 82)
  | 0x6B => some (.cueRead, 1, 1)
  | 0x70 => some (.alertRaise, 251, 251)
  | 0x71 => some (.alertClear, 1, 1)
  | 0x72 => some (.alertList, 0, 0)
  | 0x78 => some (.reportSet, 2, 2)
  | 0x79 => some (.pendingRead, 0, 0)
  | 0x7A => some (.status, 0, 0)
  | 0x7B => some (.linkRead, 0, 0)
  | 0x7C => some (.restart, 0, 0)
  | _ => none

/-- The command that takes a request of this kind: its own row, or UNKNOWN_KIND (R187). -/
def commandOfKind (kind : Octet) : Instr :=
  match requestRow kind with
  | some (c, _, _) => c
  | none => .unknownKind

/-- Whether a body of this length is one the kind allows (R187, R197). -/
def bodyFits (kind : Octet) (length : Nat) : Bool :=
  match requestRow kind with
  | some (_, least, greatest) => least ≤ length && length ≤ greatest
  | none => false

/-! ### Single fields -/

/-- A flag octet: 0 or 1. -/
def flagOperand (n : Nat) : Option Bool :=
  match n with
  | 0 => some false
  | 1 => some true
  | _ => none

/-- An alert's level or a fallback level: 1 to 7 (R140, R152). -/
def levelOperand (n : Nat) : Option (Fin 8) := if n = 0 then none else toFin? 8 n

/-- A region mask that is not empty; region 15 in the most significant bit (R6). -/
def regionsOperand (n : Nat) : Option (BitVec 16) := if n = 0 then none else some (BitVec.ofNat 16 n)

/-- A quantity within a range. -/
def rangeOperand (least greatest n : Nat) : Option Nat :=
  if least ≤ n ∧ n ≤ greatest then some n else none

/-- A flag, a port and a stream from octet i on: with flag 0 the other two are not examined (R6, R144). -/
def streamOperand (b : Octets) (i : Nat) : Option (Option Stream) := do
  let present ← flagOperand (field b i)
  if present then
    let port ← toFin? 8 (field b (i + 1))
    let number ← toFin? 4 (field b (i + 2))
    return some { port := port, number := number }
  else return none

/-- A lane: 1 for TEXT, 2 for PICTURE (R126). -/
def laneOperand (n : Nat) : Option ObjectKind :=
  match n with
  | 1 => some .text
  | 2 => some .picture
  | _ => none

/-- An object kind: 1 for TEXT, 2 for PICTURE (R104). -/
def objectKindOperand (n : Nat) : Option ObjectKind := laneOperand n

/-! ### Names and service records (R2, R6) -/

def isNameCharacter (o : Octet) : Bool := 0x20 ≤ o.toNat && o.toNat ≤ 0x7E

/-- A name of the length given, whose characters stand from octet i on. -/
def nameOperand (b : Octets) (length i : Nat) : Option Octets :=
  if (span b i length).all isNameCharacter then some (span b i length) else none

def serviceKindOperand (n : Nat) : Option ServiceKind :=
  match n with
  | 1 => some .audio
  | 2 => some .data
  | _ => none

/-- The body of SVC_SET, read by the range checks of R6: the index and the record. -/
def serviceOperand (b : Octets) : Option (Fin 32 × Service) := do
  let index ← toFin? 32 (field b 0)
  let id ← rangeOperand 1 65535 (field16 b 1)
  let kind ← serviceKindOperand (field b 3)
  let shortLength ← rangeOperand 1 8 (field b 4)
  let shortName ← nameOperand b shortLength 5
  let longLength ← rangeOperand 0 16 (field b 13)
  let longName ← nameOperand b longLength 14
  let binding ← streamOperand b 30
  if kind = .data ∧ binding.isSome then none
  let protection ← toFin? 8 (field b 33)
  let regions ← regionsOperand (field16 b 34)
  return (index,
    { id := BitVec.ofNat 16 id
      shortName := shortName
      longName := if longLength = 0 then none else some longName
      kind := kind
      binding := binding
      protection := protection
      regions := regions })

/-! ### Port configuration (R40) -/

/-- The body of PORT_SET. -/
def portOperand (b : Octets) : Option (Fin 8 × PortConfig) := do
  let port ← toFin? 8 (field b 0)
  let enabled ← flagOperand (field b 1)
  let permitted ← rangeOperand 1 63 (field b 2)
  let interval ← rangeOperand 100 5000 (field16 b 3)
  let sensing ← flagOperand (field b 5)
  return (port,
    { enabled := enabled
      permitted := BitVec.ofNat 6 permitted
      interval := interval
      sensing := sensing })

/-! ### Alert content, fallback settings -/

/-- Level, region mask, stream flag, port, stream, duration, text length and 240 octets of text, from
octet i on; the text has at least the length given (R144, R169). -/
def contentOperand (b : Octets) (i leastText : Nat) : Option AlertContent := do
  let level ← levelOperand (field b i)
  let regions ← regionsOperand (field16 b (i + 1))
  let stream ← streamOperand b (i + 3)
  let duration ← rangeOperand 0 3600 (field16 b (i + 6))
  let textLength ← rangeOperand leastText 240 (field b (i + 8))
  return { level := level, regions := regions, stream := stream, duration := duration
           text := span b (i + 9) textLength }

/-- Template slot, fallback level and fallback region mask, from octet i on (R159, R160). -/
def sourceOperand (b : Octets) (i : Nat) : Option SourceContent := do
  let slot ← toFin? 16 (field b i)
  let level ← levelOperand (field b (i + 1))
  let regions ← regionsOperand (field16 b (i + 2))
  return { slot := slot, level := level, regions := regions }

/-! ### Trigger lines and cue filters (R159, R160) -/

def edgeOperand (n : Nat) : Option EdgeSetting :=
  match n with
  | 1 => some .rising
  | 2 => some .falling
  | 3 => some .both
  | _ => none

def modeOperand (n : Nat) : Option LineMode :=
  match n with
  | 1 => some .pulse
  | 2 => some .held
  | _ => none

/-- The body of TRIG_SET. -/
def lineOperand (b : Octets) : Option (Fin 4 × LineConfig) := do
  let line ← toFin? 4 (field b 0)
  let enabled ← flagOperand (field b 1)
  let edge ← edgeOperand (field b 2)
  let mode ← modeOperand (field b 3)
  if mode = .held ∧ edge = .both then none
  let source ← sourceOperand b 4
  let filterTime ← rangeOperand 1 255 (field b 8)
  return (line,
    { enabled := enabled, edge := edge, mode := mode, source := source, filterTime := filterTime })

/-- The segment laid out from octet i on. -/
def segmentOperand (b : Octets) (i : Nat) : Option Segment := do
  let offset ← rangeOperand 0 63 (field b i)
  let length ← rangeOperand 1 8 (field b (i + 1))
  if 64 < offset + length then none
  return { offset := offset, pattern := span b (i + 2) length, mask := span b (i + 10) length }

/-- The first count segments from octet i on. -/
def segmentsOperand (b : Octets) (i : Nat) : Nat → Option (List Segment)
  | 0 => some []
  | count + 1 => do
    let segment ← segmentOperand b i
    let others ← segmentsOperand b (i + 18) count
    return segment :: others

/-- The stream of a cue filter: 0 to 3, or 4 for ANY. -/
def cueStreamOperand (n : Nat) : Option (Option (Fin 4)) :=
  if n = 4 then some none else (toFin? 4 n).map some

/-- The action: 1 REPORT, 2 RAISE. -/
def actionOperand (n : Nat) : Option Bool :=
  match n with
  | 1 => some false
  | 2 => some true
  | _ => none

/-- The filter CUE_SET names. -/
def cueFilterOperand (b : Octets) : Option (Fin 4) := toFin? 4 (field b 0)

/-- The body of CUE_SET after its filter octet. With REPORT the slot, level and mask are not examined,
and the filter keeps those it had (log 20). -/
def cueOperand (b : Octets) (held : SourceContent) : Option CueConfig := do
  let enabled ← flagOperand (field b 1)
  let port ← toFin? 8 (field b 2)
  let stream ← cueStreamOperand (field b 3)
  let raises ← actionOperand (field b 4)
  let source ← if raises then sourceOperand b 5 else some held
  let count ← rangeOperand 1 4 (field b 9)
  let segments ← segmentsOperand b 10 count
  return { enabled := enabled, port := port, stream := stream, raises := raises, source := source
           segments := segments }

/-! ### Carousel entries (R123) -/

/-- The fields of CAR_ADD that are examined for the request alone. The position is none for the end,
or the entry id to stand before, taken as given. -/
structure EntryOperand where
  service : Fin 32
  object : Fin 128
  repeats : Nat
  hold : Bool
  notify : Bool
  once : Bool
  before : Option Nat
  deriving DecidableEq, Repr

/-- The body of CAR_ADD. -/
def entryOperand (b : Octets) : Option EntryOperand := do
  let service ← toFin? 32 (field b 0)
  let object ← objectIndex? (field b 1)
  let repeats ← rangeOperand 1 15 (field b 2)
  let marks ← rangeOperand 0 7 (field b 3)
  let positioned ← flagOperand (field b 4)
  return { service := service, object := object, repeats := repeats
           hold := marks.testBit 0, notify := marks.testBit 1, once := marks.testBit 2
           before := if positioned then some (field b 5) else none }

/-! ### Locks (R146) -/

def lockOperand (n : Nat) : Option Lock :=
  match n with
  | 1 => some .held
  | 2 => some .fixed
  | _ => none

end Sys2Proof.Machine
end

