-- ==== Sys2Proof/Machine/Flags.lean ====
section
/-! DEFINITION. The report table, the transmitter and the replies: how an event sets its pending flag,
what goes out next, and how a request is taken from the queue and answered. -/

namespace Sys2Proof.Machine

/-! ### The report table (R190) -/

/-- A source's place in the report table. -/
def ReportSource.index : ReportSource → Fin 24
  | .alertAdmitted => 0
  | .alertEnded => 1
  | .alertLost => 2
  | .templateUnusable => 3
  | .templateDone => 4
  | .trigger => 5
  | .cueMatch => 6
  | .planSwitched => 7
  | .portLocked => 8
  | .portLost => 9
  | .portNoCommon => 10
  | .negotiationTimeout => 11
  | .streamUnderrun => 12
  | .streamOverrun => 13
  | .fitFault => 14
  | .objectFaulted => 15
  | .storeCorrected => 16
  | .carouselNotify => 17
  | .carouselHeld => 18
  | .frameLate => 19
  | .outputStalled => 20
  | .linkFormFault => 21
  | .directorySuperseded => 22
  | .ready => 23

/-- An event against a record: the flag set, one more in the count, the detail replaced (R190). -/
def ReportRecord.raise (r : ReportRecord) (detail : Octets) : ReportRecord :=
  { r with pending := true, count := satInc r.count, detail := padTo 8 detail }

/-- The flag and count cleared; the level and the detail stay (R191, R192, R194). -/
def ReportRecord.clear (r : ReportRecord) : ReportRecord := { r with pending := false, count := 0 }

def Control.raise (c : Control) (source : ReportSource) (detail : Octets) : Control :=
  { c with reports := updateAt c.reports source.index fun r => r.raise detail }

def State.raise (s : State) (source : ReportSource) (detail : Octets) : State :=
  s.withControl (s.control.raise source detail)

/-- Events of one block, in the order it raises them: each a source and its detail fields. -/
abbrev Events := List (ReportSource × Octets)

def State.raiseAll (s : State) : Events → State
  | [] => s
  | (source, detail) :: rest => (s.raise source detail).raiseAll rest

def Control.clearReports (c : Control) : Control :=
  { c with reports := mapTable ReportRecord.clear c.reports }

/-! ### Reply codes (R188) -/

def ReplyCode.number : ReplyCode → Octet
  | .done => 0
  | .accepted => 1
  | .busy => 2
  | .queueFull => 3
  | .unknownKind => 4
  | .badForm => 5
  | .range => 16
  | .overlap => 17
  | .noService => 18
  | .inPlan => 19
  | .onAir => 20
  | .boundElsewhere => 21
  | .notCommitted => 22
  | .tooLate => 23
  | .storeFull => 24
  | .tableFull => 25
  | .outOfOrder => 26
  | .short => 27
  | .notReady => 28
  | .inUse => 29
  | .entriesFull => 30
  | .notHeld => 31
  | .locked => 32
  | .notBlank => 33
  | .listFull => 34
  | .noAlert => 35
  | .alreadyEnding => 36
  | .noObject => 37
  | .wrongState => 38

/-- A block's answer to a request: a code, and the result body (R187). -/
structure Answer where
  code : ReplyCode
  result : Octets
  deriving DecidableEq, Repr

/-- An answer with an empty result body. -/
def Answer.plain (code : ReplyCode) : Answer := { code := code, result := [] }

/-- DONE with a result body. -/
def Answer.done (result : Octets) : Answer := { code := .done, result := result }

/-- The message of a reply (R188): kind REPLY, the request's tag. -/
def Reply.message (r : Reply) : Message :=
  { kind := 0x80, tag := r.tag, body := r.kind :: r.code.number :: r.result }

/-! ### The transmitter (R189, R191) -/

/-- The notice of a source as its record stands: kind NOTICE, tag 0 (R191). -/
def ReportRecord.notice (r : ReportRecord) (i : Fin 24) : Message :=
  { kind := 0x81, tag := 0, body := octet i.val :: r.count :: r.detail }

/-- Whether a notice of this record may go out (R189): pending, with a level of 1 or more. -/
def ReportRecord.due (r : ReportRecord) : Bool := r.pending && decide (r.level ≠ 0)

/-- The better of the source found so far and source i: the higher level, and the earlier on a tie. -/
def Control.better (c : Control) (best : Option (Fin 24)) (i : Fin 24) : Option (Fin 24) :=
  if c.reports[i].due then
    match best with
    | none => some i
    | some b => if c.reports[b].level < c.reports[i].level then some i else some b
  else best

/-- The pending source of highest level, and of lowest index among equals (R189). -/
def Control.noticeSource (c : Control) : Option (Fin 24) :=
  (List.finRange 24).foldl c.better none

/-- The choice of a free transmitter (R189): the oldest reply; otherwise, when READY, the notice of the
highest source, whose flag and count are cleared as it begins (R191); otherwise it stays idle. -/
def Control.choose (c : Control) : Control :=
  match c.transmitter, c.replies with
  | some _, _ => c
  | none, r :: rest => { c with replies := rest, transmitter := some r.message }
  | none, [] =>
    match c.phase, c.noticeSource with
    | .ready, some i =>
      { c with
        transmitter := some (c.reports[i].notice i)
        reports := updateAt c.reports i ReportRecord.clear }
    | _, _ => c

/-- The transmitter's choice, made at the end of each event (log 13). -/
def State.choose (s : State) : State := s.withControl s.control.choose

/-- A reply placed at the end of the reply list (R189). -/
def Control.place (c : Control) (r : Reply) : Control := { c with replies := c.replies ++ [r] }

/-! ### Events of a powered part -/

/-- An event at the part: without power nothing happens (log 5); with it the event has its effect and
the transmitter then makes its choice if it is idle (R189; log 13). -/
def event (effect : State → State) (s : State) : Result :=
  .next (if s.powered then (effect s).choose else s)

/-! ### Taking a request (R187) -/

/-- Whether the control unit may take the oldest request: none is being carried out, and the reply of
the previous one has begun its transmission. QUEUE_FULL replies answer no taken request (R189). -/
def Control.mayTake (c : Control) : Bool :=
  c.restarting.isNone && c.replies.all fun r => decide (r.code = .queueFull)

/-- The oldest request, if it may be taken and the command given is the one that takes it. -/
def Control.takes (c : Control) (command : Instr) : Option (Request × Control) :=
  match c.requests with
  | [] => none
  | r :: rest =>
    if c.mayTake ∧ commandOfKind r.kind = command then some (r, { c with requests := rest }) else none

/-- The answer to a request placed as its reply. -/
def State.answer (s : State) (r : Request) (a : Answer) : State :=
  s.withControl (s.control.place { kind := r.kind, tag := r.tag, code := a.code, result := a.result })

def LinkFaults.countBadForm (f : LinkFaults) : LinkFaults := { f with badForm := satInc f.badForm }

def LinkFaults.countUnknownKind (f : LinkFaults) : LinkFaults :=
  { f with unknownKind := satInc f.unknownKind }

def Control.countFault (c : Control) (count : LinkFaults → LinkFaults) : Control :=
  { c with faults := count c.faults }

/-- A request that has been taken: BUSY while STARTING (R193), BAD_FORM for a body the kind does not
allow (R187, R195), and otherwise the owning block's answer after its work. -/
def serve (owner : Octets → State → State × Answer) (r : Request) (s : State) : State :=
  match s.control.phase with
  | .starting => s.answer r (.plain .busy)
  | .ready =>
    if bodyFits r.kind r.body.length then
      let worked := owner r.body s
      worked.1.answer r worked.2
    else
      (s.withControl (s.control.countFault LinkFaults.countBadForm)).answer r (.plain .badForm)

/-- The command that takes and answers a request of its kind. Where the oldest request is of another
kind, or none may be taken, the event cannot come and nothing happens (log 2). -/
def request (command : Instr) (owner : Octets → State → State × Answer) (s : State) : State :=
  match s.control.takes command with
  | none => s
  | some (r, rest) => serve owner r (s.withControl rest)

/-- A block that only reads: its answer from the body, and no change. -/
def reading (answer : Octets → State → Answer) : Octets → State → State × Answer :=
  fun b s => (s, answer b s)

end Sys2Proof.Machine
end

