-- ==== Sys2Proof/Machine/Store.lean ====
section
/-! DEFINITION. The object store (06_the_object_store.md): groups and their reading, the object table,
loading, dropping, reading back, counters and captures. -/

namespace Sys2Proof.Machine

/-! ### Groups (R101). Group g of page p has the key 32p + g and stands at octets 16 (32p + g) upward. -/

/-- The bits of a group that differ from what was written (log 10). -/
def ObjectStore.differs (st : ObjectStore) (key : Nat) : List Nat :=
  (st.differing.filter fun d => d.1 = key).map Prod.snd

/-- The 16 octets of a group as they stand. -/
def ObjectStore.stands (st : ObjectStore) (key : Nat) : Octets := Memory.readAll st.memory (16 * key) 16

/-- The changed bits of octet j of a group, among the bits given. -/
def bitMask (bits : List Nat) (j : Nat) : Octet :=
  bits.foldl (fun m b => if b / 8 = j then m ^^^ BitVec.ofNat 8 (2 ^ (b % 8)) else m) 0

/-- The octets with these bits changed back. -/
def flipBits (octets : Octets) (bits : List Nat) : Octets :=
  octets.mapIdx fun j o => o ^^^ bitMask bits j

/-- Reading a group: the outcome and the 16 octets (R101). With three or more differing bits both are
free values (log 11). -/
def ObjectStore.readGroup (st : ObjectStore) (key : Nat) : ReadOutcome × Octets :=
  let stands := st.stands key
  match st.differs key with
  | [] => (.clean, stands)
  | [b] => (.correctable, flipBits stands [b])
  | [_, _] => (.uncorrectable, stands)
  | bits =>
    match Config.manyBitOutcome stands bits with
    | .correctable => (.correctable, (List.finRange 16).map (Config.manyBitCorrection stands bits))
    | outcome => (outcome, stands)

/-- Writing a group, with a fresh check code: nothing differs from what was written (R101). -/
def ObjectStore.writeGroup (st : ObjectStore) (key : Nat) (octets : Octets) : ObjectStore :=
  { st with
    memory := Memory.writeAll st.memory (16 * key) octets
    differing := st.differing.filter fun d => d.1 ≠ key }

/-- Every group of the pages given written with 0x00 (R104). -/
def ObjectStore.clearPages (st : ObjectStore) (pages : List Nat) : ObjectStore :=
  { st with
    memory := Memory.clearPages st.memory pages
    differing := st.differing.filter fun d => !pages.contains (d.1 / 32) }

/-- The key of group g of an object with these pages (R103). -/
def groupKey (pages : List Nat) (g : Nat) : Nat := pages.getD (g / 32) 0 * 32 + g % 32

/-- One bit of a group changes by itself. -/
def ObjectStore.flipBit (st : ObjectStore) (key bit : Nat) : ObjectStore :=
  { st with
    memory :=
      if bit < 128 then
        Memory.write st.memory (16 * key + bit / 8)
          (Memory.read st.memory (16 * key + bit / 8) ^^^ BitVec.ofNat 8 (2 ^ (bit % 8)))
      else st.memory
    differing :=
      if (key, bit) ∈ st.differing then st.differing.erase (key, bit)
      else (key, bit) :: st.differing }

/-! ### The object table (R103) -/

def ObjectStore.setObject (st : ObjectStore) (o : Fin 128) (x : Option StoredObject) : ObjectStore :=
  { st with objects := st.objects.set o x }

/-- Whether an object is in this state; a FREE object is in none. -/
def ObjectStore.isIn (st : ObjectStore) (o : Fin 128) (state : ObjectState) : Bool :=
  match st.objects[o] with
  | some x => decide (x.state = state)
  | none => false

/-- A page put back into the free pool, in its place. -/
def insertPage (p : Nat) : List Nat → List Nat
  | [] => [p]
  | q :: rest => if p < q then p :: q :: rest else q :: insertPage p rest

/-- An object becomes FREE: its pages return to the pool (R102, R108). -/
def ObjectStore.freeObject (st : ObjectStore) (o : Fin 128) : ObjectStore :=
  match st.objects[o] with
  | none => st
  | some x => { st with objects := st.objects.set o none, free := x.pages.foldr insertPage st.free }

/-- A reference taken (R109). -/
def ObjectStore.grant (st : ObjectStore) (o : Fin 128) : ObjectStore :=
  match st.objects[o] with
  | none => st
  | some x => st.setObject o (some { x with references := x.references + 1 })

/-- A reference released (R109). -/
def ObjectStore.release (st : ObjectStore) (o : Fin 128) : ObjectStore :=
  match st.objects[o] with
  | none => st
  | some x => st.setObject o (some { x with references := x.references - 1 })

/-! ### Reading a group for a reader (R111, R112, R114) -/

/-- A capture of the group with this key, of the object given. -/
def Capture.of (key : Nat) (o : Fin 128) : Capture :=
  { page := key / 32, group := key % 32, object := objectNumber o }

/-- The detail of OBJECT_FAULTED and STORE_CORRECTED: object, page, group (R198). -/
def Capture.detail (c : Capture) : Octets := octet c.object :: be16 c.page ++ [octet c.group]

/-- What a read of one group left and gave. -/
structure GroupRead where
  store : ObjectStore
  octets : Octets
  /-- The group was uncorrectable. -/
  bad : Bool
  events : Events

/-- One group read for an object: put right, counted and captured as R111 states when correctable;
counted and captured when uncorrectable (R112, R114). -/
def ObjectStore.readFor (st : ObjectStore) (o : Fin 128) (key : Nat) : GroupRead :=
  let capture := Capture.of key o
  match st.readGroup key with
  | (.clean, octets) => { store := st, octets := octets, bad := false, events := [] }
  | (.correctable, octets) =>
    { store :=
        { st.writeGroup key octets with
          corrected := satInc st.corrected
          correctedCapture := st.correctedCapture.or (some capture) }
      octets := octets
      bad := false
      events := [(.storeCorrected, capture.detail)] }
  | (.uncorrectable, octets) =>
    { store :=
        { st with
          uncorrectable := satInc st.uncorrectable
          uncorrectableCapture := st.uncorrectableCapture.or (some capture) }
      octets := octets
      bad := true
      events := [] }

/-- The object made FAULTED by an uncorrectable group, if it is READY (R112). -/
def ObjectStore.faultObject (st : ObjectStore) (o : Fin 128) (key : Nat) : ObjectStore × Events :=
  match st.objects[o] with
  | some x =>
    if x.state = .ready then
      (st.setObject o (some { x with state := .faulted }),
        [(.objectFaulted, (Capture.of key o).detail)])
    else (st, [])
  | none => (st, [])

/-- One group read by a fragment fetch. -/
def ObjectStore.fetchGroup (st : ObjectStore) (o : Fin 128) (key : Nat) : GroupRead :=
  let r := st.readFor o key
  if r.bad then
    let f := r.store.faultObject o key
    { r with store := f.1, events := r.events ++ f.2 }
  else r

/-! ### Fetching a fragment (R110) -/

/-- The number of fragments of an object or a text of this length. -/
def fragments (length : Nat) : Nat := (length + 31) / 32

/-- The octets of fragment i of a body of this length that starts at the fragment: 0x00 at and beyond
the length. -/
def fragmentOctets (octets : Octets) (length i : Nat) : Octets :=
  padTo 32 (octets.take (length - 32 * i))

/-- Fragment i of an object: the groups that hold an octet below the declared length are read, in
ascending order, and 32 octets delivered; bad when one was uncorrectable. -/
def ObjectStore.fetchFragment (st : ObjectStore) (o : Fin 128) (i : Nat) : GroupRead :=
  match st.objects[o] with
  | none => { store := st, octets := padTo 32 [], bad := false, events := [] }
  | some x =>
    let first := st.fetchGroup o (groupKey x.pages (2 * i))
    if 16 * (2 * i + 1) < x.declared then
      let second := first.store.fetchGroup o (groupKey x.pages (2 * i + 1))
      { store := second.store
        octets := fragmentOctets (first.octets ++ second.octets) x.declared i
        bad := first.bad || second.bad
        events := first.events ++ second.events }
    else { first with octets := fragmentOctets first.octets x.declared i }

/-! ### OBJ_OPEN (R104) -/

def pagesFor (length : Nat) : Nat := (length + 511) / 512

/-- The greatest declared length of a kind (R103). -/
def ObjectKind.limit : ObjectKind → Nat
  | .text => 160
  | .picture => 49152

/-- The lowest-numbered FREE object. -/
def ObjectStore.lowestFree (st : ObjectStore) : Option (Fin 128) :=
  (List.finRange 128).find? fun o => st.objects[o].isNone

def ObjectStore.openObject (st : ObjectStore) (o : Fin 128) (kind : ObjectKind) (length : Nat) :
    ObjectStore :=
  let pages := st.free.take (pagesFor length)
  { (st.clearPages pages) with
    free := st.free.drop (pagesFor length)
    objects := st.objects.set o
      (some { state := .loading, kind := kind, declared := length, loaded := 0, tail := []
              pages := pages, references := 0 }) }

def objOpen (b : Octets) (s : State) : State × Answer :=
  let length := field16 b 1
  match objectKindOperand (field b 0) with
  | none => (s, .plain .range)
  | some kind =>
    if length = 0 ∨ kind.limit < length then (s, .plain .range)
    else
      match s.store.lowestFree with
      | none => (s, .plain .tableFull)
      | some o =>
        if s.store.free.length < pagesFor length then (s, .plain .storeFull)
        else
          (s.withStore (s.store.openObject o kind length),
            .done [octet (objectNumber o), octet (pagesFor length)])

/-! ### OBJ_LOAD and OBJ_CLOSE (R105 to R107) -/

/-- n groups of an object written from group g on, from the octets given. -/
def ObjectStore.writeGroups (st : ObjectStore) (pages : List Nat) (g : Nat) (b : Octets) :
    Nat → ObjectStore
  | 0 => st
  | n + 1 => (st.writeGroup (groupKey pages g) (b.take 16)).writeGroups pages (g + 1) (b.drop 16) n

/-- Data joined behind the tail: the groups now complete are written, the rest is the new tail (R106). -/
def ObjectStore.load (st : ObjectStore) (o : Fin 128) (x : StoredObject) (data : Octets) : ObjectStore :=
  let joined := x.tail ++ data
  let whole := joined.length / 16
  (st.writeGroups x.pages ((x.loaded - x.tail.length) / 16) joined whole).setObject o
    (some { x with loaded := x.loaded + data.length, tail := joined.drop (16 * whole) })

def objLoad (b : Octets) (s : State) : State × Answer :=
  let offset := field16 b 1
  let data := b.drop 3
  match objectIndex? (field b 0) with
  | none => (s, .plain .range)
  | some o =>
    match s.store.objects[o] with
    | none => (s, .plain .noObject)
    | some x =>
      if x.state ≠ .loading then (s, .plain .wrongState)
      else if offset ≠ x.loaded then (s, .plain .outOfOrder)
      else if x.declared < offset + data.length then (s, .plain .range)
      else (s.withStore (s.store.load o x data), .done (be16 (offset + data.length)))

/-- The last part written, with 0x00 to make 16 octets, and the object READY (R107). -/
def ObjectStore.closeObject (st : ObjectStore) (o : Fin 128) (x : StoredObject) : ObjectStore :=
  let written :=
    if x.tail = [] then st
    else st.writeGroup (groupKey x.pages ((x.loaded - x.tail.length) / 16)) (padTo 16 x.tail)
  written.setObject o (some { x with state := .ready, tail := [] })

def objClose (b : Octets) (s : State) : State × Answer :=
  match objectIndex? (field b 0) with
  | none => (s, .plain .range)
  | some o =>
    match s.store.objects[o] with
    | none => (s, .plain .noObject)
    | some x =>
      if x.state ≠ .loading then (s, .plain .wrongState)
      else if x.loaded < x.declared then (s, .plain .short)
      else (s.withStore (s.store.closeObject o x), .plain .done)

/-! ### OBJ_READ (R113, R114) -/

def ObjectState.code : ObjectState → Octet
  | .loading => 1
  | .ready => 2
  | .faulted => 3

def ObjectKind.code : ObjectKind → Octet
  | .text => 1
  | .picture => 2

/-- The object octets an OBJ_READ returns, by their places in the object, with wrap-around. -/
def readPlaces (length offset count : Nat) : List Nat :=
  (List.range count).map fun j => (offset + j) % length

/-- The groups of these places, each once, in the order the data first reach them. -/
def placeGroups (places : List Nat) : List Nat :=
  places.foldl (fun seen p => if seen.contains (p / 16) then seen else seen ++ [p / 16]) []

/-- What reading several groups, one after the other, left and gave. -/
structure ReadPass where
  store : ObjectStore
  /-- The octets of each group read, by the object's group number. -/
  groups : List (Nat × Octets)
  bad : Bool
  events : Events

/-- One more group of the object read. -/
def ReadPass.step (o : Fin 128) (pages : List Nat) (p : ReadPass) (g : Nat) : ReadPass :=
  let r := p.store.readFor o (groupKey pages g)
  { store := r.store
    groups := p.groups ++ [(g, r.octets)]
    bad := p.bad || r.bad
    events := p.events ++ r.events }

/-- The octet at a place, from the groups read. -/
def placeOctet (groups : List (Nat × Octets)) (place : Nat) : Octet :=
  match groups.find? fun g => g.1 = place / 16 with
  | some g => g.2.getD (place % 16) 0
  | none => 0

def objRead (b : Octets) (s : State) : State × Answer :=
  let offset := field16 b 1
  let count := field16 b 3
  match objectIndex? (field b 0) with
  | none => (s, .plain .range)
  | some o =>
    if count = 0 ∨ 1024 < count then (s, .plain .range)
    else
      match s.store.objects[o] with
      | none => (s, .plain .noObject)
      | some x =>
        if x.state = .loading then (s, .plain .wrongState)
        else if x.declared ≤ offset then (s, .plain .range)
        else
          let places := readPlaces x.declared offset count
          let pass := (placeGroups places).foldl (ReadPass.step o x.pages)
            { store := s.store, groups := [], bad := false, events := [] }
          ((s.withStore pass.store).raiseAll pass.events,
            .done ([octet (objectNumber o), x.state.code, x.kind.code] ++ be16 x.declared
              ++ be16 x.references ++ [flagOctet pass.bad] ++ be16 offset ++ be16 count
              ++ places.map (placeOctet pass.groups)))

/-! ### STORE_STATUS and STORE_CLEAR (R116, R117) -/

def ObjectStore.countIn (st : ObjectStore) (p : StoredObject → Bool) : Nat :=
  (st.objects.toList.filter fun x => x.any p).length

def captureOctets : Option Capture → Octets
  | none => [0, 0, 0, 0, 0]
  | some c => [1] ++ be16 c.page ++ [octet c.group, octet c.object]

def storeStatus (_ : Octets) (s : State) : Answer :=
  .done (be16 s.store.free.length
    ++ [octet (s.store.countIn fun _ => true),
        octet (s.store.countIn fun x => decide (x.state = .faulted)),
        octet s.store.corrected.toNat, octet s.store.uncorrectable.toNat]
    ++ captureOctets s.store.correctedCapture ++ captureOctets s.store.uncorrectableCapture)

def ObjectStore.clearCounts (st : ObjectStore) : ObjectStore :=
  { st with
    corrected := 0
    uncorrectable := 0
    correctedCapture := none
    uncorrectableCapture := none }

def storeClear (_ : Octets) (s : State) : State × Answer :=
  (s.withStore s.store.clearCounts, .plain .done)

/-! ### RESTART (R119) -/

/-- A LOADING object becomes FREE; the others are kept with no references. -/
def ObjectStore.restartObject (st : ObjectStore) (o : Fin 128) : ObjectStore :=
  match st.objects[o] with
  | none => st
  | some x =>
    if x.state = .loading then st.freeObject o
    else st.setObject o (some { x with references := 0 })

def ObjectStore.restart (st : ObjectStore) : ObjectStore :=
  (List.finRange 128).foldl ObjectStore.restartObject st

/-! ### The commands -/

def execObjOpen (s : State) : Result := event (request .objOpen objOpen) s
def execObjLoad (s : State) : Result := event (request .objLoad objLoad) s
def execObjClose (s : State) : Result := event (request .objClose objClose) s
def execObjRead (s : State) : Result := event (request .objRead objRead) s
def execStoreStatus (s : State) : Result := event (request .storeStatus (reading storeStatus)) s
def execStoreClear (s : State) : Result := event (request .storeClear storeClear) s

/-- BIT_FAULT (R101): each bit given changes. -/
def bitFault (page : Fin 1024) (group : Fin 32) (bits : List Nat) (s : State) : State :=
  s.withStore (bits.foldl (fun st b => st.flipBit (32 * page.val + group.val) b) s.store)

def execBitFault (page : Fin 1024) (group : Fin 32) (bits : List Nat) (s : State) : Result :=
  event (bitFault page group bits) s

end Sys2Proof.Machine
end

