-- ==== Sys2Proof/Machine/Carousel.lean ====
section
/-! DEFINITION. The carousel unit (07_carousels.md): lanes and entries, edits, cell requests, restart. -/

namespace Sys2Proof.Machine

/-! ### Lanes -/

def Carousel.lane (c : Carousel) : ObjectKind → Lane
  | .text => c.text
  | .picture => c.picture

def Carousel.setLane (c : Carousel) (k : ObjectKind) (l : Lane) : Carousel :=
  match k with
  | .text => { c with text := l }
  | .picture => { c with picture := l }

def State.lane (s : State) (i : Fin 32) (k : ObjectKind) : Lane := s.carousels[i].lane k

def State.setLane (s : State) (i : Fin 32) (k : ObjectKind) (l : Lane) : State :=
  s.withCarousels (updateAt s.carousels i fun c => c.setLane k l)

/-- A visit is mid-way while the cursor or the repeats done are above 0 (R120). -/
def Lane.midWay (l : Lane) : Bool := decide (0 < l.cursor ∨ 0 < l.done)

/-- The lane's current entry. -/
def Lane.currentEntry (l : Lane) : Option CarouselEntry :=
  match l.current with
  | none => none
  | some id => l.entries.find? fun e => e.id = id

/-- The entry after the one with this id, round the circle (R122). -/
def nextEntry (entries : List CarouselEntry) (id : Fin 256) : Option (Fin 256) :=
  match entries.dropWhile fun e => e.id ≠ id with
  | _ :: e :: _ => some e.id
  | _ => entries.head?.map CarouselEntry.id

/-- The next entry becomes current, with cursor and repeats done 0 (R122). -/
def Lane.advance (l : Lane) : Lane :=
  { l with current := l.current.bind (nextEntry l.entries), cursor := 0, done := 0 }

/-- The owed ABANDON of a lane whose current entry, mid-way, is removed (R125, step 1). -/
def Lane.owing (l : Lane) (e : CarouselEntry) : Lane :=
  if l.current = some e.id ∧ l.midWay then
    { l with owed := some { object := objectNumber e.object, index := l.cursor } }
  else l

/-- The lane without an entry (R125, steps 1 to 4; the reference is released beside). -/
def Lane.remove (l : Lane) (e : CarouselEntry) : Lane :=
  let owing := l.owing e
  let moved := if l.current = some e.id then owing.advance else owing
  let rest := l.entries.filter fun x => x.id ≠ e.id
  if rest = [] then Lane.initial else { moved with entries := rest }

/-! ### The pool (R121) -/

/-- The entries in use, of every lane. -/
def entriesInUse (cs : Vector Carousel 32) : List CarouselEntry :=
  cs.toList.flatMap fun c => c.text.entries ++ c.picture.entries

/-- The lowest-numbered free entry id (R124). -/
def freeEntryId (cs : Vector Carousel 32) : Option (Fin 256) :=
  (lowestUnused 256 ((entriesInUse cs).map fun e => e.id.val)).bind (toFin? 256)

/-- The entry in use with this id, and where it stands. -/
def findEntry (cs : Vector Carousel 32) (id : Nat) : Option (Fin 32 × ObjectKind × CarouselEntry) :=
  (List.finRange 32).findSome? fun i =>
    match cs[i].text.entries.find? fun e => e.id.val = id with
    | some e => some (i, .text, e)
    | none => (cs[i].picture.entries.find? fun e => e.id.val = id).map fun e => (i, .picture, e)

/-- One entry removed and its reference released (R125). -/
def State.removeEntry (s : State) (i : Fin 32) (k : ObjectKind) (e : CarouselEntry) : State :=
  (s.setLane i k ((s.lane i k).remove e)).withStore (s.store.release e.object)

/-- The entry with this id removed, if it is in use. -/
def State.removeId (s : State) (id : Nat) : State :=
  match findEntry s.carousels id with
  | none => s
  | some (i, k, e) => s.removeEntry i k e

/-- Every entry of a lane removed, in list order from the first (R126). -/
def State.clearLane (s : State) (i : Fin 32) (k : ObjectKind) : State :=
  (s.lane i k).entries.foldl (fun t e => t.removeEntry i k e) s

/-- The ids of the entries that name an object, ascending (R127). -/
def idsNaming (cs : Vector Carousel 32) (o : Fin 128) : List Nat :=
  let naming := ((entriesInUse cs).filter fun e => e.object = o).map fun e => e.id.val
  (List.range 256).filter fun id => naming.contains id

/-! ### CAR_ADD (R123, R124) -/

/-- The entry placed at the end, or directly before the entry with the id given. -/
def placeEntry (e : CarouselEntry) (before : Option Nat) (entries : List CarouselEntry) :
    List CarouselEntry :=
  match before with
  | none => entries ++ [e]
  | some id =>
    entries.takeWhile (fun x => x.id.val ≠ id) ++ e :: entries.dropWhile fun x => x.id.val ≠ id

/-- The lane with an entry added: an EMPTY lane becomes RUNNING with it current (R124). -/
def Lane.add (l : Lane) (e : CarouselEntry) (before : Option Nat) : Lane :=
  let placed := placeEntry e before l.entries
  if l.phase = .empty then
    { phase := .running, entries := placed, current := some e.id, cursor := 0, done := 0
      owed := none }
  else { l with entries := placed }

def ObjectKind.laneCode : ObjectKind → Octet
  | .text => 1
  | .picture => 2

/-- Whether the position asked for is in the lane: at the end, or before an entry the lane holds. -/
def Lane.hasPosition (l : Lane) : Option Nat → Bool
  | none => true
  | some id => l.entries.any fun e => decide (e.id.val = id)

/-- An addition that has passed every check: the entry placed, and a reference taken (R124). -/
def State.addEntry (s : State) (op : EntryOperand) (k : ObjectKind) (id : Fin 256) : State :=
  let e : CarouselEntry :=
    { id := id, object := op.object, repeats := op.repeats, hold := op.hold, notify := op.notify
      once := op.once }
  (s.setLane op.service k ((s.lane op.service k).add e op.before)).withStore (s.store.grant op.object)

def carAdd (b : Octets) (s : State) : State × Answer :=
  match entryOperand b with
  | none => (s, .plain .range)
  | some op =>
    if s.services[op.service].isNone then (s, .plain .noService)
    else
      match s.store.objects[op.object] with
      | none => (s, .plain .notReady)
      | some x =>
        if x.state ≠ .ready then (s, .plain .notReady)
        else if !(s.lane op.service x.kind).hasPosition op.before then (s, .plain .range)
        else
          match freeEntryId s.carousels with
          | none => (s, .plain .entriesFull)
          | some id =>
            (s.addEntry op x.kind id, .done [octet id.val, x.kind.laneCode])

/-! ### CAR_REMOVE, CAR_CLEAR, CAR_RESUME, CAR_READ (R125 to R129) -/

def carRemove (b : Octets) (s : State) : State × Answer :=
  match findEntry s.carousels (field b 0) with
  | none => (s, .plain .range)
  | some (i, k, e) =>
    let after := s.removeEntry i k e
    (after, .done [flagOctet (after.lane i k).owed.isSome])

/-- The service index and the lane that a two-octet body names. -/
def laneOperands (b : Octets) : Option (Fin 32 × ObjectKind) := do
  let i ← toFin? 32 (field b 0)
  let k ← laneOperand (field b 1)
  return (i, k)

def carClear (b : Octets) (s : State) : State × Answer :=
  match laneOperands b with
  | none => (s, .plain .range)
  | some (i, k) =>
    if s.services[i].isNone then (s, .plain .noService)
    else (s.clearLane i k, .done (be16 (s.lane i k).entries.length))

def carResume (b : Octets) (s : State) : State × Answer :=
  match laneOperands b with
  | none => (s, .plain .range)
  | some (i, k) =>
    if (s.lane i k).phase = .held then
      (s.setLane i k { s.lane i k with phase := .running }, .plain .done)
    else (s, .plain .notHeld)

def LanePhase.code : LanePhase → Octet
  | .empty => 0
  | .running => 1
  | .held => 2

/-- The marks as the value CAR_ADD gives them in (R123). -/
def CarouselEntry.marks (e : CarouselEntry) : Octet :=
  octet ((if e.hold then 1 else 0) + (if e.notify then 2 else 0) + if e.once then 4 else 0)

def CarouselEntry.octets (e : CarouselEntry) : Octets :=
  [octet e.id.val, octet (objectNumber e.object), octet e.repeats, e.marks]

/-- The current entry's id as CAR_READ and the reports show it: 0 when there is none. -/
def Lane.currentOctet (l : Lane) : Octet :=
  match l.current with
  | none => 0
  | some id => octet id.val

def carRead (b : Octets) (s : State) : Answer :=
  match laneOperands b with
  | none => .plain .range
  | some (i, k) =>
    let l := s.lane i k
    .done ([octet i.val, k.laneCode, l.phase.code] ++ be16 l.entries.length
      ++ [l.currentOctet] ++ be16 l.cursor ++ [octet l.done, flagOctet l.owed.isSome]
      ++ be16 (256 - (entriesInUse s.carousels).length)
      ++ l.entries.flatMap CarouselEntry.octets)

/-! ### Cell requests (R130 to R134) -/

def ObjectKind.cellKind : ObjectKind → CellKind
  | .text => .text
  | .picture => .picture

/-- Whether the current entry's visit is mid-way and its object FAULTED (R130, R131). -/
def Lane.faultedVisit (l : Lane) (st : ObjectStore) : Bool :=
  l.midWay && l.currentEntry.any fun e => st.isIn e.object .faulted

/-- Whether a lane can supply a cell (R130). -/
def Lane.canSupply (l : Lane) (st : ObjectStore) : Bool :=
  decide (l.phase = .running)
    && (l.owed.isSome || l.faultedVisit st || l.entries.any fun e => st.isIn e.object .ready)

/-- An ABANDON cell (R132). -/
def abandonCell (k : ObjectKind) (number index : Nat) : Cell :=
  .data { number := octet number, kind := k.cellKind, first := false, last := false, abandon := true
          index := index } (padTo 32 [])

/-- A fragment cell of an object of this declared length (R132). -/
def fragmentCell (k : ObjectKind) (number declared index : Nat) (octets : Octets) : Cell :=
  .data { number := octet number, kind := k.cellKind, first := decide (index = 0)
          last := decide (fragments declared ≤ index + 1), abandon := false, index := index } octets

/-- What a lane's answer to a cell request left and gave. -/
structure LaneAnswer where
  lane : Lane
  store : ObjectStore
  cell : Option Cell
  events : Events

/-- CAROUSEL_NOTIFY of an entry (R135). -/
def notifyEvent (i : Fin 32) (k : ObjectKind) (e : CarouselEntry) : ReportSource × Octets :=
  (.carouselNotify, [octet i.val, k.laneCode, octet e.id.val, octet (objectNumber e.object)])

/-- CAROUSEL_HELD of the lane an entry's visit left HELD (R135). -/
def heldEvent (i : Fin 32) (k : ObjectKind) (e : CarouselEntry) (l : Lane) : ReportSource × Octets :=
  (.carouselHeld, [octet i.val, k.laneCode, octet e.id.val, l.currentOctet])

/-- A completed visit of entry e (R134): ONCE, NOTIFY, the advance, HOLD, in this order. -/
def Lane.complete (l : Lane) (i : Fin 32) (k : ObjectKind) (e : CarouselEntry) (st : ObjectStore)
    (cell : Cell) : LaneAnswer :=
  let ended : Lane := { l with cursor := 0, done := 0 }
  let moved := if e.once then ended.remove e else ended.advance
  let notified := if e.notify then [notifyEvent i k e] else []
  if e.hold ∧ moved.phase ≠ .empty then
    { lane := { moved with phase := .held }
      store := if e.once then st.release e.object else st
      cell := some cell
      events := notified ++ [heldEvent i k e moved] }
  else
    { lane := moved
      store := if e.once then st.release e.object else st
      cell := some cell
      events := notified }

/-- After a fragment cell is sent (R134). -/
def Lane.sent (l : Lane) (i : Fin 32) (k : ObjectKind) (e : CarouselEntry) (declared : Nat)
    (st : ObjectStore) (cell : Cell) : LaneAnswer :=
  if l.cursor + 1 < fragments declared then
    { lane := { l with cursor := l.cursor + 1 }, store := st, cell := some cell, events := [] }
  else if l.done + 1 < e.repeats then
    { lane := { l with cursor := 0, done := l.done + 1 }, store := st, cell := some cell, events := [] }
  else l.complete i k e st cell

/-- Entries whose object is not READY skipped, at most n of them (R131, case 3). -/
def Lane.skip (st : ObjectStore) (l : Lane) : Nat → Lane
  | 0 => l
  | n + 1 =>
    match l.currentEntry with
    | none => l
    | some e => if st.isIn e.object .ready then l else Lane.skip st l.advance n

/-- The fragment at the cursor of the current entry (R131, case 3; R133): its cell, or an ABANDON cell
when the fetch ends in FAULT. -/
def Lane.supplyFragment (l : Lane) (i : Fin 32) (k : ObjectKind) (st : ObjectStore) : LaneAnswer :=
  match l.currentEntry with
  | none => { lane := l, store := st, cell := none, events := [] }
  | some e =>
    match st.objects[e.object] with
    | none => { lane := l, store := st, cell := none, events := [] }
    | some x =>
      let read := st.fetchFragment e.object l.cursor
      if read.bad then
        { lane := l.advance
          store := read.store
          cell := some (abandonCell k (objectNumber e.object) l.cursor)
          events := read.events }
      else
        let cell := fragmentCell k (objectNumber e.object) x.declared l.cursor read.octets
        let after := l.sent i k e x.declared read.store cell
        { after with events := read.events ++ after.events }

/-- A lane's answer to a cell request it can supply (R131). -/
def Lane.answerCell (l : Lane) (i : Fin 32) (k : ObjectKind) (st : ObjectStore) : LaneAnswer :=
  match l.owed with
  | some a =>
    { lane := { l with owed := none }, store := st, cell := some (abandonCell k a.object a.index)
      events := [] }
  | none =>
    match l.faultedVisit st, l.currentEntry with
    | true, some e =>
      { lane := l.advance, store := st
        cell := some (abandonCell k (objectNumber e.object) l.cursor), events := [] }
    | _, _ => (Lane.skip st l l.entries.length).supplyFragment i k st

/-- The lane asked first (R130, step 1). -/
def Carousel.choice (c : Carousel) (first : Bool) : ObjectKind :=
  if first ∧ c.text.phase = .running then .text else .picture

def ObjectKind.other : ObjectKind → ObjectKind
  | .text => .picture
  | .picture => .text

/-- The lane that answers a cell request, if one can (R130). -/
def Carousel.answering (c : Carousel) (st : ObjectStore) (first : Bool) : Option ObjectKind :=
  let k := c.choice first
  if (c.lane k).canSupply st then some k
  else if (c.lane k.other).canSupply st then some k.other
  else none

/-- The answer to a cell request of a service: a data cell, or none for fill. -/
def State.carouselCell (s : State) (i : Fin 32) (first : Bool) : State × Option Cell :=
  match s.carousels[i].answering s.store first with
  | none => (s, none)
  | some k =>
    let a := (s.lane i k).answerCell i k s.store
    (((s.setLane i k a.lane).withStore a.store).raiseAll a.events, a.cell)

/-! ### Return from takeover (R138) -/

def Lane.restart (l : Lane) : Lane :=
  if l.phase = .empty then l else { l with cursor := 0, done := 0 }

def Carousel.restart (c : Carousel) : Carousel :=
  { text := c.text.restart, picture := c.picture.restart }

/-! ### OBJ_DROP, which removes entries under force (R108, R109, R127) -/

def objDrop (b : Octets) (s : State) : State × Answer :=
  match objectIndex? (field b 0), flagOperand (field b 1) with
  | some o, some force =>
    match s.store.objects[o] with
    | none => (s, .plain .noObject)
    | some x =>
      if x.state ≠ .loading ∧ 0 < x.references ∧ !force then (s, .plain .inUse)
      else
        let ids := if x.state ≠ .loading ∧ 0 < x.references then idsNaming s.carousels o else []
        let removed := ids.foldl State.removeId s
        (removed.withStore (removed.store.freeObject o), .done (be16 ids.length))
  | _, _ => (s, .plain .range)

/-! ### The commands -/

def execObjDrop (s : State) : Result := event (request .objDrop objDrop) s
def execCarAdd (s : State) : Result := event (request .carAdd carAdd) s
def execCarRemove (s : State) : Result := event (request .carRemove carRemove) s
def execCarClear (s : State) : Result := event (request .carClear carClear) s
def execCarResume (s : State) : Result := event (request .carResume carResume) s
def execCarRead (s : State) : Result := event (request .carRead (reading carRead)) s

end Sys2Proof.Machine
end

