-- ==== Sys2Proof/Machine/Templates.lean ====
section
/-! DEFINITION. The template store (08_alert_templates.md): slots, locks, operations, the mirror, and
what start-up and RESTART do to them. -/

namespace Sys2Proof.Machine

/-! ### Slots -/

def TemplateStore.setSlot (t : TemplateStore) (i : Fin 16) (state : SlotState) : TemplateStore :=
  { t with slots := updateAt t.slots i fun x => { x with state := state } }

def TemplateStore.setLock (t : TemplateStore) (i : Fin 16) (lock : Lock) : TemplateStore :=
  { t with slots := updateAt t.slots i fun x => { x with lock := lock } }

def TemplateStore.setMirror (t : TemplateStore) (i : Fin 16) (entry : MirrorEntry) : TemplateStore :=
  { t with mirror := t.mirror.set i entry }

/-- ERASING or WRITING (R142). -/
def SlotState.busy : SlotState → Bool
  | .erasing | .writing _ => true
  | .blank | .written _ | .damaged => false

def SlotState.isWritten : SlotState → Bool
  | .written _ => true
  | .blank | .erasing | .writing _ | .damaged => false

/-! ### Contents and their checks (R140, R148) -/

/-- Flag, port and stream, the last two 0 when there is none. -/
def streamOctets : Option Stream → Octets
  | none => [0, 0, 0]
  | some x => [1, octet x.port.val, octet x.number.val]

/-- A content in the layout of TPL_WRITE after the slot (249 octets). -/
def AlertContent.octets (c : AlertContent) : Octets :=
  [octet c.level.val] ++ be16 c.regions.toNat ++ streamOctets c.stream ++ be16 c.duration
    ++ [octet c.text.length] ++ padTo 240 c.text

/-- The check that the store computes over a content (R140, R144, R150; log 28). -/
def AlertContent.computedCheck (c : AlertContent) : Nat := Config.templateCheck c.octets

/-- A content as the store holds it, with its check (R144). -/
def AlertContent.stored (c : AlertContent) : TemplateContent :=
  { toAlertContent := c, check := c.computedCheck }

/-- Whether a stored check agrees with the content (R150). -/
def TemplateContent.agrees (c : TemplateContent) : Bool := decide (c.check = c.computedCheck)

/-! ### TPL_ERASE and TPL_WRITE (R143, R144) -/

/-- An erase carried out: 40 ms, and the mirror entry BLANK at once (R143, R149). -/
def TemplateStore.erase (t : TemplateStore) (i : Fin 16) : TemplateStore :=
  { (t.setSlot i .erasing).setMirror i .blank with
    operation := some { kind := .erase, slot := i, timer := 40 } }

def tplErase (b : Octets) (s : State) : State × Answer :=
  match toFin? 16 (field b 0) with
  | none => (s, .plain .range)
  | some i =>
    if s.templates.slots[i].lock ≠ .none then (s, .plain .locked)
    else if s.templates.operation.isSome then (s, .plain .busy)
    else (s.withTemplates (s.templates.erase i), .plain .accepted)

/-- A write carried out: 8 ms, and the mirror entry as it is (R144, R149). -/
def TemplateStore.write (t : TemplateStore) (i : Fin 16) (c : AlertContent) : TemplateStore :=
  { t.setSlot i (.writing c) with operation := some { kind := .write, slot := i, timer := 8 } }

/-- The checks of R144 in their order. Under no operation a slot that is not BLANK is WRITTEN or
DAMAGED. -/
def tplWrite (b : Octets) (s : State) : State × Answer :=
  match toFin? 16 (field b 0) with
  | none => (s, .plain .range)
  | some i =>
    if s.templates.slots[i].lock ≠ .none then (s, .plain .locked)
    else if s.templates.operation.isSome then (s, .plain .busy)
    else if s.templates.slots[i].state ≠ .blank then (s, .plain .notBlank)
    else
      match contentOperand b 1 1 with
      | none => (s, .plain .range)
      | some c => (s.withTemplates (s.templates.write i c), .plain .accepted)

/-! ### TPL_LOCK and TPL_UNLOCK (R146, R147) -/

def Lock.code : Lock → Octet
  | .none => 0
  | .held => 1
  | .fixed => 2

/-- The lock a slot has after a request for one (R146): a FIXED slot stays FIXED. -/
def Lock.join (old asked : Lock) : Lock := if old = .fixed then .fixed else asked

def tplLock (b : Octets) (s : State) : State × Answer :=
  match toFin? 16 (field b 0), lockOperand (field b 1) with
  | some i, some asked =>
    let slot := s.templates.slots[i]
    if slot.state.busy then (s, .plain .busy)
    else if asked = .fixed ∧ !slot.state.isWritten then (s, .plain .wrongState)
    else
      (s.withTemplates (s.templates.setLock i (slot.lock.join asked)),
        .done [(slot.lock.join asked).code])
  | _, _ => (s, .plain .range)

def tplUnlock (b : Octets) (s : State) : State × Answer :=
  match toFin? 16 (field b 0) with
  | none => (s, .plain .range)
  | some i =>
    if s.templates.slots[i].lock = .fixed then (s, .plain .locked)
    else (s.withTemplates (s.templates.setLock i .none), .plain .done)

/-! ### TPL_READ (R148) -/

/-- State code and content of a slot as TPL_READ shows them. The codes of ERASING and WRITING are never
sent, since TPL_READ is then refused BUSY. -/
def SlotState.octets : SlotState → Octet × Octets
  | .blank => (0, padTo 249 [])
  | .erasing => (1, padTo 249 [])
  | .writing _ => (2, padTo 249 [])
  | .written c => (3, c.octets)
  | .damaged => (4, padTo 249 [])

def tplRead (b : Octets) (s : State) : Answer :=
  match toFin? 16 (field b 0) with
  | none => .plain .range
  | some i =>
    if s.templates.operation.isSome then .plain .busy
    else
      let slot := s.templates.slots[i]
      .done ([octet i.val, slot.state.octets.1, slot.lock.code] ++ slot.state.octets.2)

/-! ### The end of an operation (R143 to R145) -/

/-- TEMPLATE_DONE: slot, operation (1 ERASE, 2 WRITE), state after (0 BLANK, 3 WRITTEN). -/
def OperationKind.doneDetail (i : Fin 16) : OperationKind → Octets
  | .erase => [octet i.val, 1, 0]
  | .write => [octet i.val, 2, 3]

def TemplateStore.endErase (t : TemplateStore) (i : Fin 16) : TemplateStore :=
  { t.setSlot i .blank with operation := none }

/-- The check is computed and stored with the content, and the content is copied into the mirror (R144,
R149). -/
def TemplateStore.endWrite (t : TemplateStore) (i : Fin 16) : TemplateStore :=
  match t.slots[i].state with
  | .writing c =>
    { (t.setSlot i (.written c.stored)).setMirror i (.written c.stored) with operation := none }
  | .blank | .erasing | .written _ | .damaged => { t with operation := none }

/-- ERASE_END: the timer of an ERASE has expired (R143, R145; log 4). -/
def eraseEnd (s : State) : State :=
  match s.templates.operation with
  | some { kind := .erase, slot := i, timer := 0 } =>
    (s.withTemplates (s.templates.endErase i)).raise .templateDone (OperationKind.doneDetail i .erase)
  | _ => s

/-- WRITE_END: the timer of a WRITE has expired (R144, R145; log 4). -/
def writeEnd (s : State) : State :=
  match s.templates.operation with
  | some { kind := .write, slot := i, timer := 0 } =>
    (s.withTemplates (s.templates.endWrite i)).raise .templateDone (OperationKind.doneDetail i .write)
  | _ => s

/-! ### The mirror as the alert sources see it (R149) -/

/-- The content of a WRITTEN entry; none is "unusable". -/
def MirrorEntry.content : MirrorEntry → Option AlertContent
  | .written c => some c.toAlertContent
  | .blank | .damaged => none

/-- The mirror state in TEMPLATE_UNUSABLE (R198): 0 BLANK, 4 DAMAGED. -/
def MirrorEntry.code : MirrorEntry → Octet
  | .blank => 0
  | .damaged => 4
  | .written _ => 3

/-! ### Start-up and RESTART (R150, R151) -/

/-- A HELD lock is cleared (R141). -/
def Lock.cleared : Lock → Lock
  | .fixed => .fixed
  | .none | .held => .none

/-- A slot as the start-up read finds it (R150): an operation cut short, or a check that disagrees with
the one recomputed, leaves it DAMAGED. -/
def SlotState.readBack : SlotState → SlotState
  | .erasing | .writing _ => .damaged
  | .blank => .blank
  | .written c => if c.agrees then .written c else .damaged
  | .damaged => .damaged

def Slot.readBack (x : Slot) : Slot := { state := x.state.readBack, lock := x.lock.cleared }

/-- The mirror entry of a slot as read. -/
def SlotState.mirrored : SlotState → MirrorEntry
  | .written c => .written c
  | .blank => .blank
  | .erasing | .writing _ | .damaged => .damaged

/-- The start-up read of all 16 slots (R150). -/
def TemplateStore.startUp (t : TemplateStore) : TemplateStore :=
  { slots := mapTable Slot.readBack t.slots
    operation := none
    mirror := mapTable (fun x => x.state.readBack.mirrored) t.slots }

/-- RESTART clears the HELD locks and nothing else (R151). -/
def TemplateStore.restart (t : TemplateStore) : TemplateStore :=
  { t with slots := mapTable (fun x => { x with lock := x.lock.cleared }) t.slots }

/-- Loss of power: what is volatile goes; slots and FIXED locks stay as they are, an interrupted slot to
be found DAMAGED at the next start-up (R140, R141, R150; log 5). -/
def TemplateStore.powerOff (t : TemplateStore) : TemplateStore :=
  { slots := mapTable (fun x => { x with lock := x.lock.cleared }) t.slots
    operation := none
    mirror := Vector.replicate 16 .blank }

/-! ### The commands -/

def execTplErase (s : State) : Result := event (request .tplErase tplErase) s
def execTplWrite (s : State) : Result := event (request .tplWrite tplWrite) s
def execTplLock (s : State) : Result := event (request .tplLock tplLock) s
def execTplUnlock (s : State) : Result := event (request .tplUnlock tplUnlock) s
def execTplRead (s : State) : Result := event (request .tplRead (reading tplRead)) s
def execEraseEnd (s : State) : Result := event eraseEnd s
def execWriteEnd (s : State) : Result := event writeEnd s

end Sys2Proof.Machine
end

