-- ==== Sys2Proof/Machine/Alerts.lean ====
section
/-! DEFINITION. The alert unit (10_emergency_takeover.md): numbering, admission, ending, coverage, the
taker records, the text of taken runs, and reading the list. -/

namespace Sys2Proof.Machine

/-! ### Origins, and the law of ALERT_ACTIVE -/

/-- An origin's code (R198). -/
def Origin.code : Origin → Octet
  | .host => 0
  | .trigger n => octet (1 + n.val)
  | .cue n => octet (5 + n.val)

def Alert.inForce (a : Alert) : Bool := decide (a.state = .inForce)

/-- Whether an alert's remaining time runs: IN_FORCE, with a duration (R166, R173). -/
def Alert.timed (a : Alert) : Bool := a.inForce && decide (a.content.duration ≠ 0)

/-- Every change of the list: ALERT_ACTIVE follows it in the same event (R168). -/
def AlertUnit.withAlerts (u : AlertUnit) (l : List Alert) : AlertUnit :=
  { u with alerts := l, active := l.any Alert.inForce }

/-- The list without the alert of this number. -/
def AlertUnit.without (u : AlertUnit) (number : Octet) : List Alert :=
  u.alerts.filter fun a => a.number ≠ number

def AlertUnit.find (u : AlertUnit) (number : Octet) : Option Alert :=
  u.alerts.find? fun a => a.number = number

def AlertUnit.ofOrigin (u : AlertUnit) (origin : Origin) : Option Alert :=
  u.alerts.find? fun a => a.origin = origin

/-! ### Numbering (R167) -/

/-- The number after this one: 255 is followed by 1, and 0 is passed over. -/
def nextNumber (n : Octet) : Octet := if n = 255 then 1 else n + 1

/-- The first number after this one that is not held, looking at most k + 1 numbers on. -/
def freeNumber (held : List Octet) (n : Octet) : Nat → Octet
  | 0 => nextNumber n
  | k + 1 => if held.contains (nextNumber n) then freeNumber held (nextNumber n) k else nextNumber n

def AlertUnit.newNumber (u : AlertUnit) : Octet :=
  freeNumber (u.alerts.map Alert.number) u.lastNumber u.alerts.length

/-! ### Admission (R167, R170, R171) -/

/-- What an admission left, the number it gave (none when it was refused), and its events. -/
structure Admission where
  unit : AlertUnit
  number : Option Octet
  events : Events

/-- The record of an alert newly admitted (R170). -/
def Alert.fresh (number : Octet) (stamp : Stamp) (origin : Origin) (content : AlertContent) : Alert :=
  { number := number, stamp := stamp, origin := origin, content := content
    remaining := content.duration * 1000, state := .inForce }

/-- An admission into a list with room (R170). -/
def AlertUnit.enter (u : AlertUnit) (origin : Origin) (content : AlertContent) : Admission :=
  let number := u.newNumber
  { unit :=
      { u.withAlerts (u.alerts ++ [Alert.fresh number (u.counter + 1) origin content]) with
        lastNumber := number
        counter := u.counter + 1 }
    number := some number
    events := [(.alertAdmitted, [number, origin.code, octet content.level.val])] }

/-- The lowest level held by an alert of the list. -/
def lowestLevel (l : List Alert) : Nat := l.foldl (fun m a => min m a.content.level.val) 7

/-- The most recently admitted alert of a level. -/
def latestOfLevel (l : List Alert) (level : Nat) : Option Alert :=
  l.reverse.find? fun a => a.content.level.val = level

/-- Room for a new alert of the level given (R171): none when it is refused. -/
def AlertUnit.makeRoom (u : AlertUnit) (level : Fin 8) : Option (AlertUnit × Events) :=
  if u.alerts.length < 8 then some (u, [])
  else
    match u.alerts.find? fun a => !a.inForce with
    | some a => some (u.withAlerts (u.without a.number), [])
    | none =>
      if lowestLevel u.alerts < level.val then
        (latestOfLevel u.alerts (lowestLevel u.alerts)).map fun a =>
          (u.withAlerts (u.without a.number), [(.alertEnded, [a.number, a.origin.code, 4])])
      else none

/-- An admission from any source (R167, R170, R171). -/
def AlertUnit.enlist (u : AlertUnit) (origin : Origin) (content : AlertContent) : Admission :=
  if u.counter = BitVec.allOnes 32 then { unit := u, number := none, events := [] }
  else
    match u.makeRoom content.level with
    | none => { unit := u, number := none, events := [] }
    | some (v, events) =>
      let entered := v.enter origin content
      { entered with events := events ++ entered.events }

/-! ### ALERT_RAISE (R169) -/

/-- The content of a host raise, or the refusal. -/
def hostContent (b : Octets) (s : State) : Except ReplyCode AlertContent :=
  match field b 0 with
  | 1 =>
    match toFin? 16 (field b 1) with
    | none => .error .range
    | some i =>
      match s.templates.mirror[i].content with
      | none => .error .notReady
      | some c => .ok c
  | 2 =>
    match contentOperand b 2 0 with
    | none => .error .range
    | some c => .ok c
  | _ => .error .range

def alertRaise (b : Octets) (s : State) : State × Answer :=
  match hostContent b s with
  | .error code => (s, .plain code)
  | .ok c =>
    let a := s.alerts.enlist .host c
    match a.number with
    | none => (s, .plain .listFull)
    | some n => ((s.withAlerts a.unit).raiseAll a.events, .done [n])

/-! ### Ending (R172, R173, R156) -/

def EndReason.code : EndReason → Octet
  | .cleared => 1
  | .expired => 2
  | .released => 3

/-- The alert of this number ENDING with a reason and frames left 3. -/
def AlertUnit.ending (u : AlertUnit) (number : Octet) (reason : EndReason) : AlertUnit :=
  u.withAlerts (u.alerts.map fun a =>
    if a.number = number then { a with state := .ending reason 3 } else a)

/-- An IN_FORCE alert made ENDING, with ALERT_ENDED. -/
def State.endAlert (s : State) (a : Alert) (reason : EndReason) : State :=
  (s.withAlerts (s.alerts.ending a.number reason)).raise .alertEnded
    [a.number, a.origin.code, reason.code]

def alertClear (b : Octets) (s : State) : State × Answer :=
  if field b 0 = 0 then (s, .plain .range)
  else
    match s.alerts.find (octet (field b 0)) with
    | none => (s, .plain .noAlert)
    | some a =>
      if a.inForce then (s.endAlert a .cleared, .plain .done) else (s, .plain .alreadyEnding)

/-- Whether an alert's remaining time has reached 0 (R173): an IN_FORCE alert with a duration, at 0. -/
def Alert.due (a : Alert) : Bool := a.timed && decide (a.remaining = 0)

/-- The remaining time of an IN_FORCE alert with a duration has reached 0 (R173). An expiry that comes
after a refresh finds time remaining, and one that comes after another ending finds the alert ENDING:
both do nothing (log 4). -/
def alertTimerExpiry (number : Octet) (s : State) : State :=
  match s.alerts.find number with
  | none => s
  | some a => if a.due then s.endAlert a .expired else s

/-- The release of a source's alert (R156). -/
def State.releaseAlert (s : State) (origin : Origin) : State :=
  match s.alerts.ofOrigin origin with
  | none => s
  | some a => if a.inForce then s.endAlert a .released else s

/-! ### Requests of trigger lines and cue filters (R157, R158) -/

/-- The content of a source's alert: the template's, or the fallback with TEMPLATE_UNUSABLE (R157). -/
def buildContent (mirror : Vector MirrorEntry 16) (origin : Origin) (source : SourceContent) :
    AlertContent × Events :=
  let entry := mirror[source.slot]
  match entry.content with
  | some c => (c, [])
  | none =>
    ({ level := source.level, regions := source.regions, stream := none, duration := 0, text := [] },
      [(.templateUnusable, [origin.code, octet source.slot.val, entry.code])])

/-- The remaining time of the alert of this number set back to its full duration (R158, R173). -/
def AlertUnit.refresh (u : AlertUnit) (number : Octet) : AlertUnit :=
  { u with
    alerts := u.alerts.map fun a =>
      if a.number = number then { a with remaining := a.content.duration * 1000 } else a }

/-- Ordinary admission for a source: ALERT_LOST when it is refused (R171). -/
def State.admitFor (s : State) (origin : Origin) (content : AlertContent) : State :=
  let a := s.alerts.enlist origin content
  match a.number with
  | some _ => (s.withAlerts a.unit).raiseAll a.events
  | none => s.raise .alertLost [origin.code, octet content.level.val]

/-- A source's request for admission against the list as it stands (R158). -/
def State.sourceAdmission (s : State) (origin : Origin) (content : AlertContent) : State :=
  match s.alerts.ofOrigin origin with
  | none => s.admitFor origin content
  | some a =>
    if a.inForce then s.withAlerts (s.alerts.refresh a.number)
    else (s.withAlerts (s.alerts.withAlerts (s.alerts.without a.number))).admitFor origin content

/-- Content built and admission asked for (R155 to R157, R162). -/
def State.sourceRequest (s : State) (origin : Origin) (source : SourceContent) : State :=
  let built := buildContent s.templates.mirror origin source
  (s.raiseAll built.2).sourceAdmission origin built.1

/-! ### The frame assembly start (R174 to R177) -/

/-- One alert at a new start: an ENDING alert ages, and at 0 leaves the list (R174). -/
def Alert.age (a : Alert) : Option Alert :=
  match a.state with
  | .inForce => some a
  | .ending _ 0 => none
  | .ending reason (n + 1) => some { a with state := .ending reason n }

def AlertUnit.age (u : AlertUnit) : AlertUnit := u.withAlerts (u.alerts.filterMap Alert.age)

/-- Whether an alert covers a service (R175). -/
def Alert.covers (a : Alert) (v : Service) : Bool :=
  a.inForce && decide (a.content.regions &&& v.regions ≠ 0)
    && decide (v.protection < a.content.level)

/-- The better of two covering alerts: the higher level, and the earlier admitted on a tie. -/
def betterTaker (best : Option Alert) (a : Alert) : Option Alert :=
  match best with
  | none => some a
  | some b => if b.content.level < a.content.level then some a else some b

/-- The alert that takes a service (R175). -/
def takerOf (alerts : List Alert) (v : Service) : Option Alert :=
  (alerts.filter fun a => a.covers v).foldl betterTaker none

/-- The alert that takes service i in a frame with this plan and view, if it is on air and taken. -/
def decidedTaker (alerts : List Alert) (view : ServiceTable) (onAir : Fin 32 → Bool) (i : Fin 32) :
    Option Alert :=
  if onAir i then view[i].bind (takerOf alerts) else none

/-- A service that is on air returns to OWN at this start (R176). -/
def AlertUnit.returns (u : AlertUnit) (onAir : Fin 32 → Bool) (decision : Fin 32 → Option Stamp)
    (i : Fin 32) : Bool :=
  onAir i && (u.takers[i]).isSome && (decision i).isNone

/-- The decision at a start recorded, and the taker records and cursors brought to it (R175, R176). -/
def AlertUnit.recordDecision (u : AlertUnit) (onAir : Fin 32 → Bool) (decision : Fin 32 → Option Stamp) :
    AlertUnit :=
  { u with
    decision := Vector.ofFn decision
    takers := Vector.ofFn fun i => if onAir i then decision i else u.takers[i]
    cursors := Vector.ofFn fun i =>
      if onAir i && (decision i).isSome && decide (decision i ≠ u.takers[i]) then 0
      else u.cursors[i] }

/-- What the alert unit left at a start: its own state, and the services returned to OWN, ascending. -/
def AlertUnit.start (u : AlertUnit) (view : ServiceTable) (onAir : Fin 32 → Bool) :
    AlertUnit × List (Fin 32) :=
  let aged := u.age
  let decision := fun i => (decidedTaker aged.alerts view onAir i).map Alert.stamp
  (aged.recordDecision onAir decision, (List.finRange 32).filter (aged.returns onAir decision))

/-- The lanes of services that returned to OWN restart (R138, R176). -/
def restartLanes (cs : Vector Carousel 32) (returned : List (Fin 32)) : Vector Carousel 32 :=
  returned.foldl (fun v i => updateAt v i Carousel.restart) cs

/-! ### The text of a taken run (R179, R180) -/

/-- An alert text cell. -/
def alertCell (number : Octet) (first last : Bool) (index : Nat) (octets : Octets) : Cell :=
  .data { number := number, kind := .alert, first := first, last := last, abandon := false
          index := index } octets

/-- The answer to a data-share request of a taken run, and the cursor after it (R179, R180). -/
def textAnswer (hold : TextHold) (cursor : Fin 8) (firstOfRun : Bool) : Option Cell × Fin 8 :=
  let count := fragments hold.text.length
  if hold.text = [] then
    (if firstOfRun then some (alertCell hold.number true true 0 (padTo 32 [])) else none, cursor)
  else
    (some (alertCell hold.number (decide (cursor.val = 0)) (decide (count ≤ cursor.val + 1)) cursor.val
        (fragmentOctets (hold.text.drop (32 * cursor.val)) hold.text.length cursor.val)),
      if cursor.val + 1 < count then cursor + 1 else 0)

def State.alertTextCell (s : State) (i : Fin 32) (hold : TextHold) (firstOfRun : Bool) :
    State × Option Cell :=
  let a := textAnswer hold s.alerts.cursors[i] firstOfRun
  (s.withAlerts { s.alerts with cursors := s.alerts.cursors.set i a.2 }, a.1)

/-! ### ALERT_LIST (R181) -/

def AlertState.octets : AlertState → Octets
  | .inForce => [1, 0, 0]
  | .ending reason left => [2, reason.code, octet left]

/-- The services an alert took at the last new start, service 31 in the most significant bit. -/
def AlertUnit.takenSet (u : AlertUnit) (stamp : Stamp) : Nat :=
  (List.finRange 32).foldl (fun m i => if u.decision[i] = some stamp then m + 2 ^ i.val else m) 0

def AlertUnit.record (u : AlertUnit) (a : Alert) : Octets :=
  [a.number, a.origin.code, octet a.content.level.val] ++ be16 a.content.regions.toNat
    ++ streamOctets a.content.stream ++ be16 a.content.duration
    ++ be32 (if a.timed then a.remaining else 0)
    ++ a.state.octets ++ [octet a.content.text.length] ++ be32 (u.takenSet a.stamp)

def alertList (_ : Octets) (s : State) : Answer :=
  .done ([octet s.alerts.alerts.length, s.alerts.lastNumber]
    ++ s.alerts.alerts.flatMap s.alerts.record)

/-! ### SVC_DROP (R183) -/

/-- A dropped index: its record OWN and its cursor 0, without a report. -/
def AlertUnit.forget (u : AlertUnit) (i : Fin 32) : AlertUnit :=
  { u with takers := u.takers.set i none, cursors := u.cursors.set i 0 }

/-! ### The commands -/

def execAlertRaise (s : State) : Result := event (request .alertRaise alertRaise) s
def execAlertClear (s : State) : Result := event (request .alertClear alertClear) s
def execAlertList (s : State) : Result := event (request .alertList (reading alertList)) s
def execAlertTimerExpiry (number : Octet) (s : State) : Result := event (alertTimerExpiry number) s

end Sys2Proof.Machine
end

