-- ==== Sys2Proof/Machine/Formats.lean ====
section
/-! DEFINITION. The octet layouts of 12_formats_and_worked_sequences.md: the format codes, and messages,
offer words, contribution frames and carriage frames as octets. -/

namespace Sys2Proof.Machine

/-! ### Audio carriage formats (00_scope.md, Terms; R22, R199) -/

/-- A format's code, 1 to 6. -/
def Format.number : Format → Nat
  | .a24 => 1
  | .a48 => 2
  | .a72 => 3
  | .a96 => 4
  | .a120 => 5
  | .a144 => 6

def Format.ofNumber : Nat → Option Format
  | 1 => some .a24
  | 2 => some .a48
  | 3 => some .a72
  | 4 => some .a96
  | 5 => some .a120
  | 6 => some .a144
  | _ => none

/-- Octets of payload: 360 for each step of the code. -/
def Format.payload (f : Format) : Nat := 360 * f.number

/-- Cells a frame of this format needs: 10 for each step of the code. -/
def Format.cells (f : Format) : Nat := 10 * f.number

/-- Whether a format set has a format: bit n - 1 for code n. -/
def inFormatSet (set : BitVec 6) (f : Format) : Bool := set.getLsbD (f.number - 1)

/-- The format of highest rate in a set. -/
def highestFormat (set : BitVec 6) : Option Format :=
  [Format.a144, .a120, .a96, .a72, .a48, .a24].find? (inFormatSet set)

/-- A format code, 0 for none. -/
def formatOctet : Option Format → Octet
  | none => 0
  | some f => octet f.number

/-! ### Control link messages (R197) -/

/-- Kind, tag, body length and body: what the check covers. -/
def Message.covered (m : Message) : Octets := [m.kind, m.tag] ++ be16 m.body.length ++ m.body

/-- The octets of a message on the line. -/
def Message.octets (m : Message) : Octets :=
  0xA7 :: m.covered ++ be16 (check16 m.covered).toNat

/-! ### Offer words (R199) -/

/-- Octets 2 and 3 of an offer word. -/
def OfferWord.covered (w : OfferWord) : Octets :=
  [octet w.formats.toNat, octet (w.streams + if w.ack then 128 else 0)]

def OfferWord.octets (w : OfferWord) : Octets := [0x5C, 0x93] ++ w.covered ++ [check8 w.covered]

/-- The offer word in octets 2 and 3 (R43): none when its stream count is not 1 to 4. -/
def offerFields (formats streams : Octet) : Option OfferWord :=
  if 1 ≤ streams.toNat % 8 ∧ streams.toNat % 8 ≤ 4 then
    some { formats := formats.setWidth 6, streams := streams.toNat % 8, ack := streams.msb }
  else none

/-! ### Contribution frames (R199) -/

/-- A contribution frame that passes its check (R53). The stream number is as received, 0 to 255. -/
structure ContributionFrame where
  stream : Octet
  sequence : Octet
  format : Format
  payload : Octets
  ancillary : Octets
  deriving DecidableEq, Repr

/-- Octets 2 up to the last ancillary octet. -/
def ContributionFrame.covered (f : ContributionFrame) : Octets :=
  [f.stream, f.sequence, octet f.format.number] ++ f.payload ++ [octet f.ancillary.length] ++ f.ancillary

def ContributionFrame.octets (f : ContributionFrame) : Octets :=
  [0xC3, 0x6A] ++ f.covered ++ be16 (check16 f.covered).toNat

/-! ### Carriage frames (R200) -/

/-- A service kind's code, on the control link and in the directory (R6, R200). -/
def ServiceKind.code : ServiceKind → Octet
  | .audio => 1
  | .data => 2

def Run.octets (r : Run) : Octets := be16 r.start ++ be16 r.length ++ be16 r.share

/-- The kind code and fields of a directory slot. -/
def SlotItem.fields : SlotItem → Octets
  | .empty => [0]
  | .service i =>
    [1] ++ be16 i.id.toNat ++ [octet i.shortName.length] ++ padTo 8 i.shortName ++ [i.kind.code]
      ++ i.run.octets ++ streamOctets i.source ++ [formatOctet i.format]
  | .longname id name => [2] ++ be16 id.toNat ++ [octet name.length] ++ padTo 16 name
  | .nextrun id kind run => [3] ++ be16 id.toNat ++ [kind.code] ++ run.octets
  | .frame e =>
    [4] ++ be16 e.count.toNat ++ [octet e.plan.toNat, octet e.countdown, octet e.levels.toNat]
      ++ be16 e.regions.toNat
  | .alert a =>
    [5, a.number, a.origin.code, octet a.level.val] ++ be16 a.regions.toNat
      ++ [match a.state with | .inForce => 1 | .ending _ _ => 2,
          match a.state with | .inForce => 0 | .ending reason _ => reason.code]
      ++ be16 a.seconds ++ [octet a.textLength]
  | .next countdown entries coming => [6, octet countdown, octet entries, octet coming.toNat]
  | .withdrawn plan left => [7, octet plan.toNat, octet left]

/-- A directory slot: 32 octets. -/
def SlotItem.octets (i : SlotItem) : Octets := padTo 32 i.fields

def CellKind.number : CellKind → Nat
  | .text => 1
  | .picture => 2
  | .alert => 3

/-- A data cell's header: 4 octets. -/
def CellHeader.octets (h : CellHeader) : Octets :=
  [h.number,
      octet (h.kind.number + (if h.first then 16 else 0) + (if h.last then 32 else 0)
        + if h.abandon then 64 else 0)]
    ++ be16 h.index

/-- A fill cell (00_scope.md, Terms). -/
def fillCell : Octets := List.replicate 36 0xE4

/-- A cell: 36 octets. -/
def Cell.octets : Cell → Octets
  | .audio o => padTo 36 o
  | .data h o => h.octets ++ padTo 32 o

/-- The octets of cell n of a frame, fill when the frame does not list it. -/
def CarriageFrame.cell (f : CarriageFrame) (n : Nat) : Octets :=
  match f.cells.find? fun c => c.1 = n with
  | some c => c.2.octets
  | none => fillCell

/-- The header: 8 octets. -/
def CarriageFrame.header (f : CarriageFrame) : Octets :=
  [0x3D, 0xA2, 0x5E, 0xC1, flagOctet f.resent] ++ be16 f.count.toNat ++ [octet f.plan.toNat]

/-- What the check of a carriage frame covers: 23,304 octets. -/
def CarriageFrame.covered (f : CarriageFrame) : Octets :=
  f.header ++ (List.range 8).flatMap (fun k => (f.slots.getD k .empty).octets)
    ++ (List.range 640).flatMap f.cell

/-- A carriage frame on the output link: 23,308 octets. -/
def CarriageFrame.octets (f : CarriageFrame) : Octets :=
  f.covered ++ be32 (check32 f.covered).toNat

end Sys2Proof.Machine
end

