-- ==== Sys2Proof/Machine/Plans.lean ====
section
/-! DEFINITION. The plan unit (02_allocation_plans.md): the banks, their five requests, the countdown
and the switch. -/

namespace Sys2Proof.Machine

/-! ### Banks (R5, R16) -/

/-- Whether a bank holds an entry for a service. -/
def bankNames (bank : List PlanEntry) (i : Fin 32) : Bool := bank.any fun e => decide (e.service = i)

/-- On air: the ACTIVE bank holds an entry (R5). -/
def Plan.onAir (p : Plan) (i : Fin 32) : Bool := bankNames p.active i

/-- Staged: the STAGED bank holds an entry, OPEN or COMMITTED (R5). -/
def Plan.isStaged (p : Plan) (i : Fin 32) : Bool := bankNames p.staged i

/-- An entry put in its place by start cell (R16). -/
def insertEntry (e : PlanEntry) : List PlanEntry → List PlanEntry
  | [] => [e]
  | x :: rest => if e.start < x.start then e :: x :: rest else x :: insertEntry e rest

/-- A bank without the entry of a service. -/
def withoutService (bank : List PlanEntry) (i : Fin 32) : List PlanEntry :=
  bank.filter fun e => e.service ≠ i

/-- Whether two runs share a cell. -/
def PlanEntry.overlaps (a b : PlanEntry) : Bool :=
  decide (a.start < b.start + b.length ∧ b.start < a.start + a.length)

/-! ### PLAN_EDIT (R20, R21) -/

/-- The share a kind allows in a run of this length (R17, R20). -/
def ServiceKind.allowsShare (k : ServiceKind) (length share : Nat) : Bool :=
  match k with
  | .audio => decide (share ≠ length)
  | .data => decide (share = length)

def planEdit (b : Octets) (s : State) : State × Answer :=
  let start := field16 b 1
  let length := field16 b 3
  let share := field16 b 5
  if s.plan.countdown.isSome then (s, .plain .busy)
  else
    match toFin? 32 (field b 0) with
    | none => (s, .plain .range)
    | some i =>
      let others := withoutService s.plan.staged i
      if length = 0 then (s.withPlan { s.plan with staged := others }, .plain .done)
      else if 639 < start ∨ 640 < length ∨ 640 < start + length ∨ length < share then
        (s, .plain .range)
      else
        match s.services[i] with
        | none => (s, .plain .noService)
        | some v =>
          let e : PlanEntry := { service := i, start := start, length := length, share := share }
          if !v.kind.allowsShare length share then (s, .plain .range)
          else if others.any e.overlaps then (s, .plain .overlap)
          else (s.withPlan { s.plan with staged := insertEntry e others }, .plain .done)

/-! ### PLAN_COPY, PLAN_COMMIT, PLAN_WITHDRAW (R23, R25, R31, R32) -/

def planCopy (_ : Octets) (s : State) : State × Answer :=
  if s.plan.countdown.isSome then (s, .plain .busy)
  else (s.withPlan { s.plan with staged := s.plan.active }, .plain .done)

/-- A commitment stops a WITHDRAWN announcement still running (R32). -/
def Plan.commit (p : Plan) (countdown : Nat) : Plan :=
  { p with countdown := some countdown, withdrawn := 0 }

def planCommit (b : Octets) (s : State) : State × Answer :=
  if s.plan.countdown.isSome then (s, .plain .busy)
  else
    match rangeOperand 2 250 (field b 0) with
    | none => (s, .plain .range)
    | some c => (s.withPlan (s.plan.commit c), .plain .done)

def Plan.withdraw (p : Plan) : Plan := { p with countdown := none, withdrawn := 4 }

def planWithdraw (_ : Octets) (s : State) : State × Answer :=
  match s.plan.countdown with
  | none => (s, .plain .notCommitted)
  | some c =>
    if c ≤ 1 then (s, .plain .tooLate) else (s.withPlan s.plan.withdraw, .plain .done)

/-! ### PLAN_READ (R24) -/

def PlanEntry.octets (e : PlanEntry) : Octets :=
  [octet e.service.val] ++ be16 e.start ++ be16 e.length ++ be16 e.share

/-- The state of the STAGED bank as a code: 0 OPEN, 1 COMMITTED. -/
def Plan.stateCode (p : Plan) : Octet := flagOctet p.countdown.isSome

def planRead (b : Octets) (s : State) : Answer :=
  let p := s.plan
  match field b 0 with
  | 0 =>
    .done ([0, 0, 0, octet p.number.toNat, octet p.active.length] ++ p.active.flatMap PlanEntry.octets)
  | 1 =>
    .done ([1, p.stateCode, octet (p.countdown.getD 0), octet p.number.toNat, octet p.staged.length]
      ++ p.staged.flatMap PlanEntry.octets)
  | _ => .plain .range

/-! ### The frame assembly start (R27, R28, R30, R32) -/

/-- The announcement of a frame, in the form a directory slot carries (R26, R32). -/
inductive Announcement where
  | none
  | next (countdown entries : Nat) (coming : BitVec 8)
  | withdrawn (plan : BitVec 8) (left : Nat)
  deriving DecidableEq, Repr

/-- The fixed account of the plan for a frame (R30). The staged entries are given while COMMITTED. -/
structure PlanAccount where
  entries : List PlanEntry
  number : BitVec 8
  countdown : Nat
  announcement : Announcement
  staged : List PlanEntry
  switched : Bool
  deriving DecidableEq, Repr

/-- Whether the frame's plan has an entry for a service. -/
def PlanAccount.onAir (a : PlanAccount) (i : Fin 32) : Bool := bankNames a.entries i

/-- The switch (R28): STAGED becomes ACTIVE, and stays as an OPEN copy. -/
def Plan.switch (p : Plan) : Plan :=
  { p with active := p.staged, number := p.number + 1, countdown := none }

/-- The countdown step of a start (R27): the plan after it, and whether it switched. -/
def Plan.count (p : Plan) : Plan × Bool :=
  match p.countdown with
  | none => (p, false)
  | some c => if c ≤ 1 then (p.switch, true) else ({ p with countdown := some (c - 1) }, false)

/-- The WITHDRAWN count after a start (R32). -/
def Plan.age (p : Plan) : Plan := { p with withdrawn := p.withdrawn - 1 }

/-- The announcement of the frame that starts, for the plan after its countdown step and before its
WITHDRAWN count falls. -/
def Plan.announcement (p : Plan) : Announcement :=
  match p.countdown with
  | some c => .next c p.staged.length (p.number + 1)
  | none => if 0 < p.withdrawn then .withdrawn p.number (p.withdrawn - 1) else .none

/-- The account of the frame that starts, for the same plan (R30). -/
def Plan.account (p : Plan) (switched : Bool) : PlanAccount :=
  { entries := p.active
    number := p.number
    countdown := p.countdown.getD 0
    announcement := p.announcement
    staged := if p.countdown.isSome then p.staged else []
    switched := switched }

/-- PLAN_SWITCHED: the new plan number and the number of entries (R36). -/
def Plan.switchedEvent (p : Plan) : ReportSource × Octets :=
  (.planSwitched, [octet p.number.toNat, octet p.active.length])

/-- What the plan unit does at a start: its new state, the frame's account, and its events. -/
def Plan.start (p : Plan) : Plan × PlanAccount × Events :=
  let stepped := p.count
  (stepped.1.age, stepped.1.account stepped.2,
    if stepped.2 then [stepped.1.switchedEvent] else [])

/-! ### RESTART (R35) -/

def Plan.restart (p : Plan) : Plan := { p with countdown := none, withdrawn := 0 }

/-! ### The commands -/

def execPlanEdit (s : State) : Result := event (request .planEdit planEdit) s
def execPlanCopy (s : State) : Result := event (request .planCopy planCopy) s
def execPlanCommit (s : State) : Result := event (request .planCommit planCommit) s
def execPlanWithdraw (s : State) : Result := event (request .planWithdraw planWithdraw) s
def execPlanRead (s : State) : Result := event (request .planRead (reading planRead)) s

end Sys2Proof.Machine
end

