-- ==== Sys2Proof/Machine/Directory.lean ====
section
/-! DEFINITION. The directory unit (05_the_directory_section.md): the FRAME entry, the rotation list,
fresh marks, and the choice of the eight slots. -/

namespace Sys2Proof.Machine

/-! ### The FRAME entry (R87) -/

/-- A flag for each level held by an IN_FORCE alert: bit n - 1 for level n. -/
def levelsInForce (alerts : List Alert) : BitVec 8 :=
  (alerts.filter Alert.inForce).foldl
    (fun m a => m ||| BitVec.ofNat 8 (2 ^ (a.content.level.val - 1))) 0

/-- The union of the region masks of the IN_FORCE alerts. -/
def regionsInForce (alerts : List Alert) : BitVec 16 :=
  (alerts.filter Alert.inForce).foldl (fun m a => m ||| a.content.regions) 0

def frameEntry (count : BitVec 16) (account : PlanAccount) (alerts : List Alert) : SlotItem :=
  .frame
    { count := count
      plan := account.number
      countdown := account.countdown
      levels := levelsInForce alerts
      regions := regionsInForce alerts }

/-! ### Items (R88) -/

/-- The remaining time in whole seconds, rounded up; 0 for an unlimited and for an ENDING alert. -/
def Alert.seconds (a : Alert) : Nat :=
  if a.timed then (a.remaining + 999) / 1000 else 0

def Alert.item (a : Alert) : SlotItem :=
  .alert
    { number := a.number
      origin := a.origin
      level := a.content.level
      regions := a.content.regions
      state := a.state
      seconds := a.seconds
      textLength := a.content.text.length }

def Announcement.item : Announcement → Option SlotItem
  | .none => Option.none
  | .next countdown entries coming => some (.next countdown entries coming)
  | .withdrawn plan left => some (.withdrawn plan left)

def PlanEntry.run (e : PlanEntry) : Run := { start := e.start, length := e.length, share := e.share }

/-- The format code of a SERVICE item: the port format of the bound stream (R60, R88). -/
def sourceFormat (ports : Vector Port 8) (v : Service) : Option Format :=
  match v.kind with
  | .data => none
  | .audio => v.binding.bind fun x => ports[x.port].format

def serviceItem (ports : Vector Port 8) (v : Service) (e : PlanEntry) : SlotItem :=
  .service
    { id := v.id
      shortName := v.shortName
      kind := v.kind
      run := e.run
      source := v.binding
      format := sourceFormat ports v }

/-! ### The rotation list (R90) -/

abbrev Rotation := List (ItemKey × SlotItem)

/-- A service's SERVICE item, and its LONGNAME item if it has a long name. -/
def serviceItems (ports : Vector Port 8) (view : ServiceTable) (entries : List PlanEntry) (i : Fin 32) :
    Rotation :=
  match entries.find? (fun e => e.service = i), view[i] with
  | some e, some v =>
    ({ kind := .service, service := i }, serviceItem ports v e)
      :: match v.longName with
        | some name => [({ kind := .longname, service := i }, .longname v.id name)]
        | none => []
  | _, _ => []

/-- A staged entry's NEXTRUN item. -/
def nextRunItem (view : ServiceTable) (e : PlanEntry) : Option (ItemKey × SlotItem) :=
  view[e.service].map fun v =>
    ({ kind := .nextrun, service := e.service }, .nextrun v.id v.kind e.run)

def rotationOf (ports : Vector Port 8) (view : ServiceTable) (account : PlanAccount) : Rotation :=
  (List.finRange 32).flatMap (serviceItems ports view account.entries)
    ++ account.staged.filterMap (nextRunItem view)

def contentsOf (r : Rotation) (k : ItemKey) : Option SlotItem := (r.find? fun x => x.1 = k).map Prod.snd

/-! ### Fresh marks (R91, R99) -/

def ItemKind.code : ItemKind → Octet
  | .service => 1
  | .longname => 2
  | .nextrun => 3

/-- An item that existed at the previous start and whose contents differ from its last contents. -/
def changedItem (last : Rotation) (x : ItemKey × SlotItem) : Bool :=
  (contentsOf last x.1).any fun c => decide (c ≠ x.2)

/-- Whether an item is marked fresh at this start. -/
def markedItem (last : Rotation) (switched restarted : Bool) (x : ItemKey × SlotItem) : Bool :=
  (contentsOf last x.1).isNone || changedItem last x || (switched && decide (x.1.kind = .service))
    || restarted

/-- The fresh queue with items marked: those not in it join the back in order. -/
def markAll (fresh : List ItemKey) (marked : List ItemKey) : List ItemKey :=
  fresh ++ marked.filter fun k => !fresh.contains k

/-- The directory unit after the rebuild and the marking of a start, with its events (R90, R91). Where
several items are superseded at one start, their events come in rotation list order (log 34). -/
def Directory.rebuild (d : Directory) (rotation : Rotation) (switched : Bool) : Directory × Events :=
  let kept := d.fresh.filter fun k => (contentsOf rotation k).isSome
  let marked := (rotation.filter (markedItem d.rotation switched d.restarted)).map Prod.fst
  let superseded := (rotation.filter fun x => changedItem d.rotation x && kept.contains x.1).map Prod.fst
  ({ d with
      rotation := rotation
      fresh := markAll kept marked
      restarted := false
      superseded := superseded.foldl (fun n _ => satInc n) d.superseded },
    superseded.map fun k => (.directorySuperseded, [k.kind.code, octet k.service.val]))

/-! ### The choice of slots (R92 to R96) -/

/-- The alerts carried at a start (R93). -/
def carriedAlerts (mark : Option Stamp) (alerts : List Alert) : List Alert :=
  if alerts.length ≤ 4 then alerts
  else
    match mark with
    | none => alerts.take 4
    | some m =>
      ((alerts.filter fun a => decide (m < a.stamp)) ++ alerts.filter fun a => !decide (m < a.stamp)).take 4

/-- The alert mark after a frame that carried these. -/
def markAfter (mark : Option Stamp) (carried : List Alert) : Option Stamp :=
  match carried.getLast? with
  | some a => some a.stamp
  | none => mark

/-- The rotation walk (R96): at most n items examined from a position, at most r of them carried, those
already carried as fresh passed over. The items carried, and the position after the last examined. -/
def rotationWalk (items : Rotation) (skip : List ItemKey) : Nat → Nat → Nat → Rotation × Nat
  | 0, _, pos => ([], pos)
  | _ + 1, 0, pos => ([], pos)
  | n + 1, r + 1, pos =>
    match items[pos]? with
    | none => ([], pos)
    | some x =>
      let after := (pos + 1) % items.length
      if skip.contains x.1 then rotationWalk items skip n (r + 1) after
      else
        let others := rotationWalk items skip n r after
        (x :: others.1, others.2)

/-- The walk with the slots left, and the cursor after it; with no slot left there is no walk. -/
def walkFrom (items : Rotation) (skip : List ItemKey) (slots cursor : Nat) : Rotation × Nat :=
  if slots = 0 then ([], cursor)
  else if items = [] then ([], 0)
  else rotationWalk items skip items.length slots (if items.length ≤ cursor then 0 else cursor)

/-- Slots 1 to 7 of a frame, and the directory unit after the choice (R92). -/
def Directory.chooseSlots (d : Directory) (announcement : Announcement) (alerts : List Alert) :
    Directory × List SlotItem :=
  let carried := carriedAlerts d.mark alerts
  let announced := announcement.item.toList
  let freshKeys := d.fresh.take 2
  let freshItems := freshKeys.filterMap (contentsOf d.rotation)
  let ahead := carried.map Alert.item ++ announced ++ freshItems
  let walked := walkFrom d.rotation freshKeys (7 - ahead.length) d.cursor
  let gone := freshKeys ++ walked.1.map Prod.fst
  let chosen := ahead ++ walked.1.map Prod.snd
  ({ d with
      fresh := d.fresh.filter fun k => !gone.contains k
      cursor := walked.2
      mark := markAfter d.mark carried },
    chosen ++ List.replicate (7 - chosen.length) .empty)

/-- What the directory unit does at a start (R86): its state, the eight slots, and its events. -/
def Directory.start (d : Directory) (count : BitVec 16) (account : PlanAccount) (view : ServiceTable)
    (ports : Vector Port 8) (alerts : List Alert) : Directory × List SlotItem × Events :=
  let rebuilt := d.rebuild (rotationOf ports view account) account.switched
  let chosen := rebuilt.1.chooseSlots account.announcement alerts
  (chosen.1, frameEntry count account alerts :: chosen.2, rebuilt.2)

/-! ### DIRECTORY_READ (R97) -/

def Directory.octets (d : Directory) : Octets :=
  [octet d.rotation.length, octet d.cursor, octet d.fresh.length] ++ be16 d.superseded.toNat
    ++ d.fresh.flatMap fun k => [k.kind.code, octet k.service.val]

def directoryRead (_ : Octets) (s : State) : State × Answer :=
  (s.withDirectory { s.directory with superseded := 0 }, .done s.directory.octets)

/-! ### RESTART (R99) -/

def Directory.restart (d : Directory) : Directory :=
  { d with fresh := [], cursor := 0, mark := none, restarted := true }

/-! ### The command -/

def execDirectoryRead (s : State) : Result := event (request .directoryRead directoryRead) s

end Sys2Proof.Machine
end

