-- ==== Sys2Proof/Machine/Triggers.lean ====
section
/-! DEFINITION. The trigger lines and the cue filters (09_trigger_lines_and_cue_filters.md). -/

namespace Sys2Proof.Machine

/-! ### Edges (R152, R154) -/

/-- A change of the settled level: rising when it becomes HIGH. -/
inductive Edge where
  | rising | falling
  deriving DecidableEq, Repr

def Edge.to : PinLevel → Edge
  | .high => .rising
  | .low => .falling

def Edge.code : Edge → Octet
  | .rising => 1
  | .falling => 2

/-- Whether an edge is of the configured kind. -/
def EdgeSetting.counts (e : EdgeSetting) (edge : Edge) : Bool :=
  match e, edge with
  | .rising, .rising | .falling, .falling | .both, _ => true
  | .rising, .falling | .falling, .rising => false

/-- The active level that an edge setting names in HELD mode; BOTH names none. -/
def EdgeSetting.activeLevel : EdgeSetting → Option PinLevel
  | .rising => some .high
  | .falling => some .low
  | .both => none

def LineMode.code : LineMode → Octet
  | .pulse => 1
  | .held => 2

/-- Whether a line is an enabled HELD line whose settled level is its active level. -/
def TriggerLine.active (l : TriggerLine) : Bool :=
  l.config.enabled && decide (l.config.mode = .held) && l.settled.isSome
    && decide (l.settled = l.config.edge.activeLevel)

/-! ### Raw changes and the filter timer (R153) -/

/-- The raw level becomes the one given. While the settled level is UNKNOWN every change restarts the
filter timer; otherwise a change away starts it and a change back stops it. -/
def TriggerLine.rawChange (l : TriggerLine) (level : PinLevel) : TriggerLine :=
  if l.raw = level then l
  else
    { l with
      raw := level
      timer := if l.settled = some level then none else some l.config.filterTime }

/-- The pin changes whether or not the part has power; the filter runs with power only (log 5). -/
def triggerRawChange (line : Fin 4) (level : PinLevel) (s : State) : State :=
  s.withLines (updateAt s.lines line fun l => l.rawChange level)

/-- Without power only the pin's level is kept. -/
def rawLevelOnly (line : Fin 4) (level : PinLevel) (s : State) : State :=
  s.withLines (updateAt s.lines line fun l => { l with raw := level })

/-! ### What a line does (R155, R156, R165) -/

/-- TRIGGER: line, edge, mode. -/
def State.raiseTrigger (s : State) (line : Fin 4) (edge : Edge) (mode : LineMode) : State :=
  s.raise .trigger [octet line.val, edge.code, mode.code]

/-- TRIGGER, the content, and the request for admission (R155, R156). -/
def State.trigger (s : State) (line : Fin 4) (edge : Edge) (mode : LineMode) : State :=
  (s.raiseTrigger line edge mode).sourceRequest (.trigger line) s.lines[line].config.source

/-- An accepted edge on a line as it stands after it (R155, R156). -/
def State.acceptedEdge (s : State) (line : Fin 4) (edge : Edge) : State :=
  let l := s.lines[line]
  if !l.config.enabled then s
  else
    match l.config.mode with
    | .pulse => if l.config.edge.counts edge then s.trigger line edge .pulse else s
    | .held =>
      if l.active then s.trigger line edge .held
      else (s.raiseTrigger line edge .held).releaseAlert (.trigger line)

/-- A line found at its active level without an edge: the first settling, or a TRIG_SET. The edge in
TRIGGER is the one that leads to that level (log 19). -/
def State.becomeActive (s : State) (line : Fin 4) : State :=
  if s.lines[line].active then
    match s.lines[line].settled with
    | some level => s.trigger line (Edge.to level) .held
    | none => s
  else s

/-- The line after its filter timer expired: the settled level takes the raw level (R153), and the
pending flag is set by an accepted edge of the configured kind (R154). -/
def TriggerLine.settle (l : TriggerLine) : TriggerLine :=
  { l with
    settled := some l.raw
    timer := none
    pending := l.pending || (l.settled.isSome && l.config.edge.counts (Edge.to l.raw)) }

/-- FILTER_TIMER_EXPIRY: the filter time has passed (R153, R165). An expiry that comes after a raw change,
or a TRIG_SET, that started the timer afresh finds time left, and nothing settles (log 4). -/
def filterTimerExpiry (line : Fin 4) (s : State) : State :=
  let l := s.lines[line]
  if l.timer.due then
    let settled := s.withLines (updateAt s.lines line TriggerLine.settle)
    if l.settled.isNone then settled.becomeActive line
    else settled.acceptedEdge line (Edge.to l.raw)
  else s

/-! ### TRIG_SET and TRIG_READ (R154, R159) -/

/-- A line with a new configuration: a running filter timer starts afresh (R159). -/
def TriggerLine.configure (l : TriggerLine) (c : LineConfig) : TriggerLine :=
  { l with config := c, timer := l.timer.map fun _ => c.filterTime }

/-- Whether a line was active with the same active level before a TRIG_SET (R159). -/
def TriggerLine.staysActive (l : TriggerLine) (c : LineConfig) : Bool :=
  l.active && decide (l.config.edge.activeLevel = c.edge.activeLevel)

def trigSet (b : Octets) (s : State) : State × Answer :=
  match lineOperand b with
  | none => (s, .plain .range)
  | some (line, c) =>
    let set := s.withLines (updateAt s.lines line fun l => l.configure c)
    (if s.lines[line].staysActive c then set else set.becomeActive line, .plain .done)

def EdgeSetting.code : EdgeSetting → Octet
  | .rising => 1
  | .falling => 2
  | .both => 3

def settledCode : Option PinLevel → Octet
  | some .low => 0
  | some .high => 1
  | none => 2

/-- The 10 octets of a line in TRIG_READ. -/
def TriggerLine.octets (l : TriggerLine) : Octets :=
  [flagOctet l.config.enabled, l.config.edge.code, l.config.mode.code, octet l.config.source.slot.val,
      octet l.config.source.level.val]
    ++ be16 l.config.source.regions.toNat
    ++ [octet l.config.filterTime, settledCode l.settled, flagOctet l.pending]

def TriggerLine.clearPending (l : TriggerLine) : TriggerLine := { l with pending := false }

def trigRead (_ : Octets) (s : State) : State × Answer :=
  (s.withLines (mapTable TriggerLine.clearPending s.lines),
    .done (s.lines.toList.flatMap TriggerLine.octets))

/-! ### Cue filters (R160 to R163) -/

/-- CUE_SET: a new configuration, and the hit count 0 (R160). -/
def cueSet (b : Octets) (s : State) : State × Answer :=
  match cueFilterOperand b with
  | none => (s, .plain .range)
  | some n =>
    match cueOperand b s.cues[n].config.source with
    | none => (s, .plain .range)
    | some c => (s.withCues (s.cues.set n { config := c, hits := 0 }), .plain .done)

/-- The 18 octets of a segment. -/
def Segment.octets (g : Segment) : Octets :=
  [octet g.offset, octet g.pattern.length] ++ padTo 8 g.pattern ++ padTo 8 g.mask

/-- Slot, level and mask as CUE_READ shows them: 0 under REPORT. -/
def CueConfig.sourceOctets (c : CueConfig) : Octets :=
  if c.raises then [octet c.source.slot.val, octet c.source.level.val] ++ be16 c.source.regions.toNat
  else [0, 0, 0, 0]

/-- The configuration in the layout of CUE_SET (82 octets). -/
def CueConfig.octets (c : CueConfig) (n : Fin 4) : Octets :=
  [octet n.val, flagOctet c.enabled, octet c.port.val,
      match c.stream with | some k => octet k.val | none => 4,
      if c.raises then 2 else 1]
    ++ c.sourceOctets ++ [octet c.segments.length]
    ++ padTo 72 (c.segments.flatMap Segment.octets)

def cueRead (b : Octets) (s : State) : State × Answer :=
  match toFin? 4 (field b 0) with
  | none => (s, .plain .range)
  | some n =>
    (s.withCues (updateAt s.cues n fun f => { f with hits := 0 }),
      .done (s.cues[n].config.octets n ++ be16 s.cues[n].hits.toNat))

/-- Whether a segment is satisfied by an ancillary field (R161). -/
def Segment.satisfied (g : Segment) (ancillary : Octets) : Bool :=
  decide (g.offset + g.pattern.length ≤ ancillary.length)
    && (List.range g.pattern.length).all fun i =>
      decide (ancillary.getD (g.offset + i) 0 &&& g.mask.getD i 0
        = g.pattern.getD i 0 &&& g.mask.getD i 0)

/-- Whether a filter matches a handed field (R161). -/
def CueConfig.matches (c : CueConfig) (port : Fin 8) (stream : Fin 4) (ancillary : Octets) : Bool :=
  c.enabled && decide (c.port = port) && c.stream.all (fun k => decide (k = stream))
    && c.segments.all fun g => g.satisfied ancillary

/-- What a filter does with a handed field (R161, R162). -/
def State.examine (port : Fin 8) (stream : Fin 4) (ancillary : Octets) (s : State) (n : Fin 4) : State :=
  let f := s.cues[n]
  if f.config.matches port stream ancillary then
    let hits := satInc f.hits
    let counted :=
      (s.withCues (s.cues.set n { f with hits := hits })).raise .cueMatch
        ([octet n.val, octet port.val, octet stream.val] ++ be16 hits.toNat)
    if f.config.raises then counted.sourceRequest (.cue n) f.config.source else counted
  else s

/-- An accepted frame's ancillary field handed on (R59): the filters in ascending number (log 18). -/
def State.handOn (s : State) (port : Fin 8) (stream : Fin 4) (ancillary : Octets) : State :=
  (List.finRange 4).foldl (State.examine port stream ancillary) s

/-! ### RESTART (R165) -/

def TriggerLine.restart (l : TriggerLine) : TriggerLine :=
  { l with settled := none, timer := some l.config.filterTime, pending := false }

def CueFilter.restart (f : CueFilter) : CueFilter := { f with hits := 0 }

/-! ### The commands -/

def execTrigSet (s : State) : Result := event (request .trigSet trigSet) s
def execTrigRead (s : State) : Result := event (request .trigRead trigRead) s
def execCueSet (s : State) : Result := event (request .cueSet cueSet) s
def execCueRead (s : State) : Result := event (request .cueRead cueRead) s

/-- TRIGGER_RAW_CHANGE. -/
def execTriggerRawChange (line : Fin 4) (level : PinLevel) (s : State) : Result :=
  if s.powered then event (triggerRawChange line level) s else .next (rawLevelOnly line level s)

def execFilterTimerExpiry (line : Fin 4) (s : State) : Result := event (filterTimerExpiry line) s

end Sys2Proof.Machine
end

