-- ==== Sys2Proof/Machine/Ports.lean ====
section
/-! DEFINITION. The contributor ports (03_contributor_ports_and_stream_queues.md): negotiation, sensing,
link loss, the contributor line, frames and stream queues. -/

namespace Sys2Proof.Machine

/-! ### States and what is cleared on the way -/

def PortState.code : PortState → Octet
  | .disabled => 0
  | .listen => 1
  | .offering => 2
  | .acking => 3
  | .locked => 4
  | .sensed => 5
  | .noCommon => 6

/-- LOCKED or SENSED: the port carries audio (R38). -/
def PortState.carries : PortState → Bool
  | .locked | .sensed => true
  | .disabled | .listen | .offering | .acking | .noCommon => false

/-- The states in which the listen timer's expiry is taken (R49). -/
def PortState.negotiates : PortState → Bool
  | .listen | .offering | .acking => true
  | .disabled | .locked | .sensed | .noCommon => false

def linkLimit : Nat := 250

def wordPeriod : Nat := 8

/-- The offer word a port sends (R42): its permitted set, 4 streams, and the ack flag. -/
def Port.word (p : Port) (ack : Bool) : OfferWord :=
  { formats := p.config.permitted, streams := 4, ack := ack }

/-- A port without what only LOCKED and SENSED hold: queues flushed, and no format, stream count or
sequence records (R55, R58). -/
def Port.bare (p : Port) : Port :=
  { p with
    format := none
    streams := none
    sequences := Vector.replicate 4 none
    queues := Vector.replicate 4 [] }

/-- Entry to LISTEN (R41): the first word goes out at once. -/
def Port.enterListen (p : Port) : Port :=
  { p.bare with
    state := .listen
    exchange := Exchange.cleared
    candidate := none
    linkTimer := none
    listenTimer := some p.config.interval
    period := some wordPeriod
    sent := some (p.word false) }

/-- To DISABLED (R40): nothing runs, nothing is sent, and the line is not examined (log 15). -/
def Port.disable (p : Port) : Port :=
  { p.bare with
    state := .disabled
    exchange := Exchange.cleared
    candidate := none
    linkTimer := none
    listenTimer := none
    period := none
    line := [] }

def State.setPort (s : State) (n : Fin 8) (p : Port) : State := s.withPorts (s.ports.set n p)

/-! ### PORT_SET, PORT_RENEGOTIATE, PORT_READ (R40, R41, R62) -/

def Port.configure (p : Port) (c : PortConfig) : Port :=
  if c.enabled then Port.enterListen { p with config := c } else Port.disable { p with config := c }

def portSet (b : Octets) (s : State) : State × Answer :=
  match portOperand b with
  | none => (s, .plain .range)
  | some (n, c) => (s.setPort n (s.ports[n].configure c), .plain .done)

def portRenegotiate (b : Octets) (s : State) : State × Answer :=
  match toFin? 8 (field b 0) with
  | none => (s, .plain .range)
  | some n =>
    if s.ports[n].state = .disabled then (s, .plain .wrongState)
    else (s.setPort n s.ports[n].enterListen, .plain .done)

def PortCounters.octets (c : PortCounters) : Octets :=
  be16 c.checkFailures.toNat ++ be16 c.formatMismatches.toNat ++ be16 c.sequenceGaps.toNat
    ++ be16 c.overruns.toNat ++ be16 c.underruns.toNat ++ be16 c.linkLosses.toNat

def Port.octets (p : Port) (n : Fin 8) : Octets :=
  [octet n.val, flagOctet p.config.enabled, octet p.config.permitted.toNat] ++ be16 p.config.interval
    ++ [flagOctet p.config.sensing, p.state.code, formatOctet p.format, octet (p.streams.getD 0)]
    ++ p.queues.toList.map (fun q => octet q.length) ++ p.counters.octets

def portRead (b : Octets) (s : State) : State × Answer :=
  match toFin? 8 (field b 0) with
  | none => (s, .plain .range)
  | some n =>
    (s.setPort n { s.ports[n] with counters := PortCounters.zero }, .done (s.ports[n].octets n))

/-! ### The offer word period and resolution (R42, R47) -/

/-- Resolution after the sixth closing word (R47). -/
def Port.resolve (p : Port) (n : Fin 8) : Port × Events :=
  let agreed := (p.exchange.previous.map OfferWord.formats).getD 0
  let streams := (p.exchange.previous.map OfferWord.streams).getD 1
  let cleared : Port :=
    { p with
      exchange := Exchange.cleared
      linkTimer := some linkLimit
      sequences := Vector.replicate 4 none }
  match highestFormat (p.config.permitted &&& agreed) with
  | none =>
    ({ cleared with state := .noCommon },
      [(.portNoCommon, [octet n.val, 1, octet agreed.toNat])])
  | some f =>
    ({ cleared with state := .locked, format := some f, streams := some streams, period := none },
      [(.portLocked, [octet n.val, octet f.number, octet streams, 1])])

/-- The 8 ms period of a port expires: the next word is sent, with ack 1 in ACKING, and after the sixth
closing word the port resolves. -/
def Port.sendWord (p : Port) (n : Fin 8) : Port × Events :=
  let sent : Port :=
    { p with period := some wordPeriod, sent := some (p.word (decide (p.state = .acking))) }
  match p.exchange.closing with
  | none => (sent, [])
  | some k =>
    let counted : Port := { sent with exchange := { p.exchange with closing := some (k + 1) } }
    if k + 1 < 6 then (counted, []) else counted.resolve n

/-- A port's own work taken into the whole part. -/
def State.portEvent (s : State) (n : Fin 8) (work : Port → Port × Events) : State :=
  let r := work s.ports[n]
  (s.setPort n r.1).raiseAll r.2

/-- OFFER_WORD_PERIOD: 8 ms have passed since the period began or was restarted (R42; log 4). -/
def offerWordPeriod (n : Fin 8) (s : State) : State :=
  if s.ports[n].period.due then s.portEvent n fun p => p.sendWord n else s

/-! ### Received offer words (R43 to R48, R51) -/

/-- Back to, or into, OFFERING with a word as the previous word and match count 1. -/
def Port.toOffering (p : Port) (w : OfferWord) : Port :=
  { p with
    state := .offering
    exchange := { previous := some w, matched := 1, acked := 0, closing := none }
    linkTimer := some linkLimit }

/-- Same format set and stream count, the ack flag ignored (R45). -/
def OfferWord.same (a b : OfferWord) : Bool := decide (a.formats = b.formats ∧ a.streams = b.streams)

/-- R45. -/
def Port.matchWord (p : Port) (w : OfferWord) : Port :=
  let matched := if p.exchange.previous.any fun v => v.same w then p.exchange.matched + 1 else 1
  let kept : Port :=
    { p with exchange := { p.exchange with previous := some w, matched := matched } }
  if matched < 3 then kept
  else
    { kept with
      state := .acking
      exchange := { kept.exchange with acked := 0 }
      linkTimer := some linkLimit }

/-- R46: at the third acknowledged word the exchange is complete, and the listen timer stops. -/
def Port.ackWord (p : Port) (w : OfferWord) : Port :=
  if p.exchange.previous.any fun v => v.same w then
    if !w.ack then { p with exchange := { p.exchange with acked := 0 } }
    else if p.exchange.acked + 1 < 3 then
      { p with exchange := { p.exchange with acked := p.exchange.acked + 1 } }
    else
      { p with
        exchange := { p.exchange with acked := p.exchange.acked + 1, closing := some 0 }
        listenTimer := none }
  else p.toOffering w

/-- A restarted contributor (R48). -/
def Port.restarted (p : Port) (w : OfferWord) : Port :=
  { p.bare.toOffering w with
    candidate := none
    listenTimer := some p.config.interval
    period := some wordPeriod
    sent := some (p.word false) }

/-- A valid arrival restarts a running link timer (R43, R52). -/
def Port.heard (p : Port) : Port := { p with linkTimer := p.linkTimer.map fun _ => linkLimit }

/-- A valid offer word, by the port state (R43). -/
def Port.takeWord (p : Port) (w : OfferWord) : Port :=
  let q := p.heard
  match q.state with
  | .disabled | .noCommon => q
  | .listen => q.toOffering w
  | .offering => q.matchWord w
  | .acking => if q.exchange.closing.isSome then q else q.ackWord w
  | .locked | .sensed => q.restarted w

/-! ### The listen timer (R49, R50) -/

/-- Sensing with a candidate (R50). -/
def Port.sense (p : Port) (n : Fin 8) (f : Format) : Port × Events :=
  let cleared : Port :=
    { p with
      exchange := Exchange.cleared
      candidate := none
      listenTimer := none
      linkTimer := some linkLimit
      sequences := Vector.replicate 4 none }
  if inFormatSet p.config.permitted f then
    ({ cleared with state := .sensed, format := some f, streams := some 4, period := none },
      [(.portLocked, [octet n.val, octet f.number, 4, 2])])
  else
    ({ cleared with state := .noCommon }, [(.portNoCommon, [octet n.val, 2, octet f.number])])

/-- The listen interval expires: sensing if it can, LISTEN again otherwise (R49). -/
def Port.listenExpiry (p : Port) (n : Fin 8) : Port × Events :=
  match p.config.sensing, p.candidate with
  | true, some f => p.sense n f
  | _, _ => (p.enterListen, [(.negotiationTimeout, [octet n.val, p.state.code])])

/-- LISTEN_TIMER_EXPIRY: the configured interval has passed since the timer started (R49; log 4). -/
def listenTimerExpiry (n : Fin 8) (s : State) : State :=
  if s.ports[n].listenTimer.due && s.ports[n].state.negotiates then
    s.portEvent n fun p => p.listenExpiry n
  else s

/-! ### Link loss (R52) -/

def Port.loseLink (p : Port) (n : Fin 8) : Port × Events :=
  (Port.enterListen
      { p with counters := { p.counters with linkLosses := satInc p.counters.linkLosses } },
    [(.portLost, [octet n.val, p.state.code])])

/-- 250 ms have passed without a valid arrival (R52). An expiry that comes after an arrival that restarted
the timer finds time left, and the link is not lost (log 4). -/
def linkTimerExpiry (n : Fin 8) (s : State) : State :=
  if s.ports[n].linkTimer.due then s.portEvent n fun p => p.loseLink n else s

/-! ### Contribution frames (R53 to R56, R59) -/

/-- A frame that fails its check (R53). -/
def Port.failedFrame (p : Port) : Port :=
  if p.state.carries then
    { p with counters := { p.counters with checkFailures := satInc p.counters.checkFailures } }
  else p

/-- A frame that passes its check reaches the link timer and, while the listen timer runs, the sense
candidate (R50, R52, R53). -/
def Port.seenFrame (p : Port) (f : Format) : Port :=
  let q := p.heard
  if q.listenTimer.isSome && q.state.negotiates then { q with candidate := some f } else q

def Port.mismatch (p : Port) : Port :=
  { p with counters := { p.counters with formatMismatches := satInc p.counters.formatMismatches } }

/-- The stream a frame is accepted on, if it is accepted (R54). -/
def Port.acceptedStream (p : Port) (f : ContributionFrame) : Option (Fin 4) :=
  if p.streams.any (fun k => decide (f.stream.toNat < k)) && decide (p.format = some f.format) then
    toFin? 4 f.stream.toNat
  else none

/-- The sequence of an accepted frame tracked (R55). -/
def Port.track (p : Port) (k : Fin 4) (sequence : Octet) : Port :=
  let gap := p.sequences[k].any fun q => decide (sequence ≠ q + 1)
  { p with
    sequences := p.sequences.set k (some sequence)
    counters :=
      if gap then { p.counters with sequenceGaps := satInc p.counters.sequenceGaps } else p.counters }

/-- An accepted frame joins its queue, the oldest discarded when there are 4 (R56). -/
def Port.enqueue (p : Port) (n : Fin 8) (k : Fin 4) (f : QueuedFrame) : Port × Events :=
  let q := p.queues[k]
  if q.length < 4 then ({ p with queues := p.queues.set k (q ++ [f]) }, [])
  else
    ({ p with
        queues := p.queues.set k (q.drop 1 ++ [f])
        counters := { p.counters with overruns := satInc p.counters.overruns } },
      [(.streamOverrun, [octet n.val, octet k.val])])

def ContributionFrame.queued (f : ContributionFrame) : QueuedFrame :=
  { payload := f.payload, format := f.format, sequence := f.sequence }

/-- An accepted frame: sequence, queue, and the ancillary field handed on, in that order (R54). -/
def State.acceptFrame (s : State) (n : Fin 8) (k : Fin 4) (f : ContributionFrame) : State :=
  (s.portEvent n fun p => (p.track k f.sequence).enqueue n k f.queued).handOn n k f.ancillary

/-- A frame that passes its check (R53, R54). -/
def State.takeFrame (s : State) (n : Fin 8) (f : ContributionFrame) : State :=
  let seen := s.setPort n (s.ports[n].seenFrame f.format)
  if seen.ports[n].state.carries then
    match seen.ports[n].acceptedStream f with
    | some k => seen.acceptFrame n k f
    | none => seen.setPort n seen.ports[n].mismatch
  else seen

/-! ### The contributor line (R199) -/

/-- What the octets of a contributor line amount to. An invalid offer word amounts to nothing. -/
inductive LineItem where
  | word (w : OfferWord)
  | frame (f : ContributionFrame)
  | failedFrame

/-- An attempt to read the item that starts at its sync: unfinished, discarded with no effect, or an
item; the number is of octets used up. -/
inductive ItemRead where
  | unfinished
  | discarded
  | item (i : LineItem) (used : Nat)

/-- The offer word at the sync (R43, R199). -/
def readWord (os : Octets) : ItemRead :=
  if os.length < 5 then .unfinished
  else if check8 (span os 2 2) = os.getD 4 0 then
    match offerFields (os.getD 2 0) (os.getD 3 0) with
    | some w => .item (.word w) 5
    | none => .discarded
  else .discarded

/-- A delimited contribution frame: its payload is n octets, its ancillary field m. -/
def readDelimited (os : Octets) (f : Format) (n m : Nat) : ItemRead :=
  if os.length < n + m + 8 then .unfinished
  else if (check16 (span os 2 (n + m + 4))).toNat = field16 os (n + m + 6) then
    .item
      (.frame
        { stream := os.getD 2 0, sequence := os.getD 3 0, format := f, payload := span os 5 n
          ancillary := span os (n + 6) m })
      (n + m + 8)
  else .item .failedFrame 2

/-- The contribution frame at the sync (R53, R199): a format code outside 1 to 6 or an ancillary length
above 64 fails at once. -/
def readFrame (os : Octets) : ItemRead :=
  if os.length < 5 then .unfinished
  else
    match Format.ofNumber (field os 4) with
    | none => .item .failedFrame 2
    | some f =>
      if os.length < f.payload + 6 then .unfinished
      else if 64 < field os (f.payload + 5) then .item .failedFrame 2
      else readDelimited os f f.payload (field os (f.payload + 5))

/-- The items in the octets of a line, and the octets of the item in progress. The number bounds the
octets to look at. -/
def lineItems : Nat → Octets → List LineItem × Octets
  | 0, os => ([], os)
  | n + 1, os =>
    match os with
    | [] => ([], [])
    | a :: rest =>
      let hunt := fun (more : Octets) => lineItems n more
      let use := fun (r : ItemRead) =>
        match r with
        | .unfinished => ([], os)
        | .discarded => hunt (os.drop 2)
        | .item i used =>
          let others := hunt (os.drop used)
          (i :: others.1, others.2)
      match a == 0x5C, a == 0xC3, rest with
      | true, _, [] | _, true, [] => ([], os)
      | true, _, b :: _ => if b = 0x93 then use (readWord os) else hunt rest
      | _, true, b :: _ => if b = 0x6A then use (readFrame os) else hunt rest
      | _, _, _ => hunt rest

/-- An item taken by its port. -/
def State.takeItem (n : Fin 8) (s : State) : LineItem → State
  | .word w => s.setPort n (s.ports[n].takeWord w)
  | .frame f => s.takeFrame n f
  | .failedFrame => s.setPort n s.ports[n].failedFrame

/-- Octets arrive on a contributor line: a DISABLED port does not examine them (R199). -/
def lineOctets (n : Fin 8) (octets : Octets) (s : State) : State :=
  let p := s.ports[n]
  if p.state = .disabled then s
  else
    let os := p.line ++ octets
    let read := lineItems os.length os
    read.1.foldl (State.takeItem n) (s.setPort n { p with line := read.2 })

/-! ### Takes (R57) -/

/-- The assembler's take of a stream's oldest frame; an empty queue counts an underrun (R57, R75). -/
def State.takeStream (s : State) (x : Stream) : State × Option QueuedFrame :=
  let p := s.ports[x.port]
  match p.queues[x.number] with
  | f :: rest => (s.setPort x.port { p with queues := p.queues.set x.number rest }, some f)
  | [] =>
    ((s.setPort x.port
        { p with counters := { p.counters with underruns := satInc p.counters.underruns } }).raise
      .streamUnderrun [octet x.port.val, octet x.number.val], none)

/-! ### RESTART (R64) -/

def Port.restart (p : Port) : Port :=
  let cleared : Port := { p with counters := PortCounters.zero }
  if p.config.enabled then cleared.enterListen else cleared

/-! ### The commands -/

def execPortSet (s : State) : Result := event (request .portSet portSet) s
def execPortRenegotiate (s : State) : Result := event (request .portRenegotiate portRenegotiate) s
def execPortRead (s : State) : Result := event (request .portRead portRead) s

/-- The octets of an offer word arrive. -/
def execOfferWordReceived (port : Fin 8) (octets : Octets) (s : State) : Result :=
  event (lineOctets port octets) s

/-- The octets of a contribution frame arrive. -/
def execContributionFrame (port : Fin 8) (octets : Octets) (s : State) : Result :=
  event (lineOctets port octets) s

def execOfferWordPeriod (port : Fin 8) (s : State) : Result := event (offerWordPeriod port) s
def execListenTimerExpiry (port : Fin 8) (s : State) : Result := event (listenTimerExpiry port) s
def execLinkTimerExpiry (port : Fin 8) (s : State) : Result := event (linkTimerExpiry port) s

end Sys2Proof.Machine
end

