-- ==== Sys2Proof/Machine/Output.lean ====
section
/-! DEFINITION. The assembler and the output link (04_frame_assembly_and_the_output_link.md): pulls, the
frame assembly start, the placement of runs, and completion. -/

namespace Sys2Proof.Machine

/-! ### Buffers (R65) -/

def FrameBuffer.isAssembling : FrameBuffer → Bool
  | .assembling _ _ => true
  | .empty | .lastSent _ | .complete _ => false

/-- Whether a frame assembly is in progress. -/
def Output.assembling (o : Output) : Bool := o.bufferA.isAssembling || o.bufferB.isAssembling

/-- The frame being assembled and its progress. -/
def FrameBuffer.work : FrameBuffer → Option (CarriageFrame × Progress)
  | .assembling f p => some (f, p)
  | .empty | .lastSent _ | .complete _ => none

def Output.work (o : Output) : Option (CarriageFrame × Progress) := o.bufferA.work.or o.bufferB.work

/-- The assembling buffer replaced. -/
def FrameBuffer.replaceWork (b new : FrameBuffer) : FrameBuffer := if b.isAssembling then new else b

def Output.setWork (o : Output) (new : FrameBuffer) : Output :=
  { o with bufferA := o.bufferA.replaceWork new, bufferB := o.bufferB.replaceWork new }

def State.setWork (s : State) (new : FrameBuffer) : State := s.withOutput (s.output.setWork new)

/-! ### The frame assembly start (R72) -/

/-- The audio source of a run (R74, R178). -/
def audioSource (v : Service) (taker : Option Alert) : Option Stream :=
  match v.kind with
  | .data => none
  | .audio => (taker.bind fun a => a.content.stream).or v.binding

/-- A run of the frame that starts, with what its start fixes (R72, R177). -/
def frameRun (view : ServiceTable) (taker : Fin 32 → Option Alert) (e : PlanEntry) : FrameRun :=
  { service := e.service
    run := e.run
    source := view[e.service].bind fun v => audioSource v (taker e.service)
    taken := (taker e.service).map fun a => { number := a.number, text := a.content.text } }

/-- The progress at the start of an assembly. -/
def Progress.first (runs : List FrameRun) : Progress :=
  { runs := runs, audioDone := false, cellsDone := 0, answers := [] }

/-- A new frame assembly start: the plan unit, the view, the alert unit with the lanes it returns, the
directory unit, and the frame with its runs (R27, R28, R10, R174 to R176, R86, R72). -/
def State.startFrame (s : State) : State × FrameBuffer :=
  let count := s.output.count + 1
  let plan := s.plan.start
  let account := plan.2.1
  let alerts := s.alerts.start s.services account.onAir
  let directory := s.directory.start count account s.services s.ports alerts.1.alerts
  let taker := decidedTaker alerts.1.alerts s.services account.onAir
  let frame : CarriageFrame :=
    { resent := false, count := count, plan := account.number, slots := directory.2.1, cells := [] }
  let started :=
    ((((s.withPlan plan.1).withAlerts alerts.1).withCarousels
      (restartLanes s.carousels alerts.2)).withDirectory directory.1).withOutput
        { s.output with count := count }
  (started.raiseAll (plan.2.2 ++ directory.2.2),
    .assembling frame (Progress.first (account.entries.map (frameRun s.services taker))))

/-! ### Pulls (R66 to R70) -/

def stallLimit : Nat := 360

/-- The idle frame (R66; its header's plan number: log 26). -/
def idleFrame (plan : BitVec 8) : CarriageFrame :=
  { resent := true
    count := 0
    plan := plan
    slots :=
      .frame { count := 0, plan := plan, countdown := 0, levels := 0, regions := 0 }
        :: List.replicate 7 .empty
    cells := [] }

/-- The output after a pull that sends a frame: RUNNING, SENDING, and the stall timer afresh. -/
def Output.sending (o : Output) (a b : FrameBuffer) : Output :=
  { o with
    state := .running
    bufferA := a
    bufferB := b
    link := .sending
    stallTimer := some stallLimit }

/-- The first pull after READY (R66): the idle frame, in buffer A, and the first assembly in buffer B. -/
def State.firstPull (s : State) : State :=
  let started := s.startFrame
  started.1.withOutput
    (started.1.output.sending (.lastSent (idleFrame s.plan.number)) started.2)

/-- A pull that finds buffer A COMPLETE, or buffer B (R67). -/
def State.sendComplete (s : State) (frame : CarriageFrame) (inA : Bool) : State :=
  let started := s.startFrame
  started.1.withOutput
    (if inA then started.1.output.sending (.lastSent frame) started.2
      else started.1.output.sending started.2 (.lastSent frame))

/-- A LAST SENT buffer sent again carries REPEAT (R68). -/
def FrameBuffer.resend : FrameBuffer → FrameBuffer
  | .lastSent f => .lastSent { f with resent := true }
  | .empty => .empty
  | .assembling f p => .assembling f p
  | .complete f => .complete f

/-- The frame count of the LAST SENT frame. -/
def Output.lastSentCount (o : Output) : BitVec 16 :=
  match o.bufferA, o.bufferB with
  | .lastSent f, _ => f.count
  | _, .lastSent f => f.count
  | _, _ => 0

/-- A pull that finds the assembly unfinished (R68). -/
def State.repeatFrame (s : State) : State :=
  let o := s.output
  (s.withOutput
      { o.sending o.bufferA.resend o.bufferB.resend with repeats := satInc o.repeats }).raise
    .frameLate (be16 o.lastSentCount.toNat)

/-- A pull taken while a frame is being sent (R69). -/
def State.earlyPull (s : State) : State :=
  s.withOutput { s.output with earlyPulls := satInc s.output.earlyPulls }

/-- A pull with the output RUNNING or STALLED and the link IDLE. -/
def State.answerPull (s : State) : State :=
  match s.output.bufferA, s.output.bufferB with
  | .complete f, _ => s.sendComplete f true
  | _, .complete f => s.sendComplete f false
  | _, _ => if s.output.assembling then s.repeatFrame else s

/-- A frame pull, as the table of 04, section 4.10, gathers it. -/
def framePull (s : State) : State :=
  match s.control.phase, s.output.state, s.output.link with
  | .starting, _, _ => s
  | .ready, .waiting, _ => s.firstPull
  | .ready, _, .sending => s.earlyPull
  | .ready, _, .idle => s.answerPull

/-! ### Placing the runs (R73 to R76) -/

def FrameRun.audioCells (r : FrameRun) : Nat := r.run.length - r.run.share

/-- The assembly in progress as the assembler works on it, with the fit faults it meets. -/
structure Assembly where
  frame : CarriageFrame
  progress : Progress
  faults : Vector (BitVec 16) 32
  events : Events

/-- The audio cells of a frame that fits, from the run's start cell on. -/
def audioCellsOf (start : Nat) (f : QueuedFrame) : List (Nat × Cell) :=
  (List.range f.format.cells).map fun i => (start + i, .audio (span f.payload (36 * i) 36))

/-- The first run's audio portion done, with these cells in the frame. -/
def Assembly.portionDone (a : Assembly) (cells : List (Nat × Cell)) : Assembly :=
  { a with
    frame := { a.frame with cells := a.frame.cells ++ cells }
    progress := { a.progress with audioDone := true } }

/-- A run offered the answer of a take: its fit check (R75, R76). -/
def Assembly.offer (a : Assembly) (r : FrameRun) (answer : Option QueuedFrame) : Assembly :=
  match answer with
  | none => a.portionDone []
  | some f =>
    if f.format.cells ≤ r.audioCells then a.portionDone (audioCellsOf r.run.start f)
    else
      { a.portionDone [] with
        faults := updateAt a.faults r.service satInc
        events := a.events ++
          [(.fitFault, [octet r.service.val, octet f.format.number] ++ be16 r.audioCells)] }

/-- The answer already had of a stream in this assembly. -/
def Progress.answer (p : Progress) (x : Stream) : Option (Option QueuedFrame) :=
  (p.answers.find? fun y => y.1 = x).map Prod.snd

/-- The first run finished and the next begun. -/
def Assembly.nextRun (a : Assembly) : Assembly :=
  { a with
    progress := { a.progress with runs := a.progress.runs.tail, audioDone := false, cellsDone := 0 } }

/-- The assembler passes everything that needs neither a take nor a cell request, at most n steps of it:
finished runs, and audio portions whose source is none or already answered (R74, R75; log 21). -/
def Assembly.pass (a : Assembly) : Nat → Assembly
  | 0 => a
  | n + 1 =>
    match a.progress.runs with
    | [] => a
    | r :: _ =>
      if a.progress.audioDone then
        if r.run.share ≤ a.progress.cellsDone then a.nextRun.pass n else a
      else
        match r.source with
        | none => (a.portionDone []).pass n
        | some x =>
          match a.progress.answer x with
          | some answer => (a.offer r answer).pass n
          | none => a

/-- The assembly in progress, with everything passed that needs no request. -/
def State.reached (s : State) : Option Assembly :=
  s.output.work.map fun w =>
    Assembly.pass { frame := w.1, progress := w.2, faults := s.output.fitFaults, events := [] }
      (2 * w.2.runs.length)

/-- The assembly put back, its fit faults counted and raised. -/
def State.putBack (s : State) (a : Assembly) : State :=
  ((s.withOutput { s.output with fitFaults := a.faults }).setWork
    (.assembling a.frame a.progress)).raiseAll a.events

/-- The answer of a take kept for the rest of the assembly (R75). -/
def Assembly.keep (a : Assembly) (x : Stream) (answer : Option QueuedFrame) : Assembly :=
  { a with progress := { a.progress with answers := a.progress.answers ++ [(x, answer)] } }

/-- STREAM_TAKE: the take of the audio source of the run reached, and the run's fit check (R75, R76). An
assembly in progress at a stall makes its takes while the output is STALLED (R70 against R57; log 33). -/
def streamTake (s : State) : State :=
  match s.reached with
  | none => s
  | some a =>
    match a.progress.runs with
    | [] => s.putBack a
    | r :: _ =>
      match a.progress.audioDone, r.source with
      | false, some x =>
        let taken := s.takeStream x
        taken.1.putBack ((a.keep x taken.2).offer r taken.2)
      | _, _ => s.putBack a

/-! ### The data share (R77, R78) -/

/-- The number of the data-share cell reached in a run. -/
def FrameRun.shareCell (r : FrameRun) (done : Nat) : Nat := r.run.start + r.audioCells + done

/-- The answer to a request for the data-share cell reached placed in the frame; fill when it is none. -/
def Assembly.place (a : Assembly) (r : FrameRun) (cell : Option Cell) : Assembly :=
  { a with
    frame :=
      { a.frame with
        cells := a.frame.cells ++ (cell.map fun c => (r.shareCell a.progress.cellsDone, c)).toList }
    progress := { a.progress with cellsDone := a.progress.cellsDone + 1 } }

/-- The run whose data share is reached. -/
def Assembly.shareRun (a : Assembly) : Option FrameRun :=
  match a.progress.runs, a.progress.audioDone with
  | r :: _, true => some r
  | _, _ => none

/-- CELL_REQUEST: the next data-share cell of an OWN run, asked of the service's carousel (R77). -/
def cellRequest (s : State) : State :=
  match s.reached with
  | none => s
  | some a =>
    match a.shareRun with
    | none => s
    | some r =>
      match r.taken with
      | some _ => s
      | none =>
        let answered := s.carouselCell r.service (decide (a.progress.cellsDone = 0))
        answered.1.putBack (a.place r answered.2)

/-- ALERT_CELL_REQUEST: the next data-share cell of a taken run, asked of the alert unit (R78). -/
def alertCellRequest (s : State) : State :=
  match s.reached with
  | none => s
  | some a =>
    match a.shareRun with
    | none => s
    | some r =>
      match r.taken with
      | none => s
      | some hold =>
        let answered := s.alertTextCell r.service hold (decide (a.progress.cellsDone = 0))
        answered.1.putBack (a.place r answered.2)

/-! ### Completion, the end of a transmission, the stall (R70, R71, R73) -/

/-- FRAME_ASSEMBLY_COMPLETE: every run is placed, and the buffer becomes COMPLETE (R73). -/
def frameAssemblyComplete (s : State) : State :=
  match s.reached with
  | none => s
  | some a => if a.progress.runs = [] then (s.putBack a).setWork (.complete a.frame) else s

/-- OUTPUT_TRANSMISSION_END (R71): only the link condition changes. -/
def outputTransmissionEnd (s : State) : State := s.withOutput { s.output with link := .idle }

/-- STALL_TIMER_EXPIRY (R70): 360 ms have passed without a pull that restarts the timer. An expiry that
comes after such a pull finds time left, and the output does not stall (log 4). -/
def stallTimerExpiry (s : State) : State :=
  if s.output.stallTimer.due then
    (s.withOutput
        { s.output with
          state := .stalled
          stallTimer := none
          stalls := satInc s.output.stalls }).raise
      .outputStalled (be16 s.output.count.toNat)
  else s

/-! ### OUTPUT_READ (R83) -/

def OutputState.code : OutputState → Octet
  | .waiting => 0
  | .running => 1
  | .stalled => 2

def Output.octets (o : Output) : Octets :=
  [o.state.code] ++ be16 o.count.toNat ++ be16 o.repeats.toNat ++ be16 o.stalls.toNat
    ++ be16 o.earlyPulls.toNat ++ o.fitFaults.toList.flatMap fun n => be16 n.toNat

/-- The counters at 0, the rest kept (R83, R85). -/
def Output.clearCounts (o : Output) : Output :=
  { o with repeats := 0, stalls := 0, earlyPulls := 0, fitFaults := Vector.replicate 32 0 }

def outputRead (_ : Octets) (s : State) : State × Answer :=
  (s.withOutput s.output.clearCounts, .done s.output.octets)

/-! ### The commands -/

def execOutputRead (s : State) : Result := event (request .outputRead outputRead) s
def execFramePull (s : State) : Result := event framePull s
def execStreamTake (s : State) : Result := event streamTake s
def execCellRequest (s : State) : Result := event cellRequest s
def execAlertCellRequest (s : State) : Result := event alertCellRequest s
def execFrameAssemblyComplete (s : State) : Result := event frameAssemblyComplete s
def execOutputTransmissionEnd (s : State) : Result := event outputTransmissionEnd s
def execStallTimerExpiry (s : State) : Result := event stallTimerExpiry s

end Sys2Proof.Machine
end

