-- ==== Sys2Proof/Machine/Services.lean ====
section
/-! DEFINITION. The service table (01_services_and_regions.md): SVC_SET, SVC_DROP and SVC_READ. -/

namespace Sys2Proof.Machine

/-! ### SVC_SET (R6 to R8) -/

/-- Whether a record at another index meets a condition. -/
def otherRecord (t : ServiceTable) (i : Fin 32) (p : Service → Bool) : Bool :=
  (List.finRange 32).any fun j => decide (j ≠ i) && t[j].any p

/-- ON_AIR: a DEFINED record in a plan bank would change its id or its kind (R7). -/
def changesPlanned (s : State) (i : Fin 32) (v : Service) : Bool :=
  (s.plan.onAir i || s.plan.isStaged i)
    && s.services[i].any fun old => decide (old.id ≠ v.id ∨ old.kind ≠ v.kind)

def svcSet (b : Octets) (s : State) : State × Answer :=
  match serviceOperand b with
  | none => (s, .plain .range)
  | some (i, v) =>
    if changesPlanned s i v then (s, .plain .onAir)
    else if otherRecord s.services i fun r => decide (r.id = v.id) then (s, .plain .inUse)
    else if v.binding.isSome && otherRecord s.services i fun r => decide (r.binding = v.binding) then
      (s, .plain .boundElsewhere)
    else (s.withServices (s.services.set i (some v)), .plain .done)

/-! ### SVC_DROP (R13, R183) -/

/-- A drop carried out: both lanes emptied, TEXT first (log 32), the takeover history forgotten, the
record UNUSED. -/
def State.dropService (s : State) (i : Fin 32) : State :=
  let cleared := (s.clearLane i .text).clearLane i .picture
  (cleared.withAlerts (cleared.alerts.forget i)).withServices (cleared.services.set i none)

def svcDrop (b : Octets) (s : State) : State × Answer :=
  match toFin? 32 (field b 0) with
  | none => (s, .plain .range)
  | some i =>
    if s.services[i].isNone then (s, .plain .noService)
    else if s.plan.onAir i || s.plan.isStaged i then (s, .plain .inPlan)
    else (s.dropService i, .plain .done)

/-! ### SVC_READ (R14) -/

/-- The fields of a record after its index, in the order of SVC_SET. -/
def Service.octets (v : Service) : Octets :=
  be16 v.id.toNat ++ [v.kind.code, octet v.shortName.length] ++ padTo 8 v.shortName
    ++ [octet (v.longName.getD []).length] ++ padTo 16 (v.longName.getD [])
    ++ streamOctets v.binding ++ [octet v.protection.val] ++ be16 v.regions.toNat

/-- On air counts 1, and staged 2. -/
def Plan.planOctet (p : Plan) (i : Fin 32) : Octet :=
  octet ((if p.onAir i then 1 else 0) + if p.isStaged i then 2 else 0)

/-- For an UNUSED record every octet is 0, the index among them (R14; log 25). -/
def svcRead (b : Octets) (s : State) : Answer :=
  match toFin? 32 (field b 0) with
  | none => .plain .range
  | some i =>
    match s.services[i] with
    | none => .done (padTo 38 [])
    | some v => .done ([octet i.val] ++ v.octets ++ [1, s.plan.planOctet i])

/-! ### The commands -/

def execSvcSet (s : State) : Result := event (request .svcSet svcSet) s
def execSvcDrop (s : State) : Result := event (request .svcDrop svcDrop) s
def execSvcRead (s : State) : Result := event (request .svcRead (reading svcRead)) s

end Sys2Proof.Machine
end

