-- ==== Sys2Proof/Machine/Control.lean ====
section
/-! DEFINITION. The control unit (11_the_control_link_and_reports.md): the receiver, the request queue,
the control unit's own requests, start-up, RESTART, and power. -/

namespace Sys2Proof.Machine

/-! ### The receiver (R184, R185) -/

/-- The reasons of a receive fault (R185). -/
inductive FaultReason where
  | length | check | line
  deriving DecidableEq, Repr

/-- What the receiver finds. -/
inductive Received where
  | message (r : Request)
  | fault (reason : FaultReason)
  deriving DecidableEq, Repr

/-- The octets of a message as values. -/
def lineValues (os : List LineOctet) : Octets := os.map LineOctet.value

/-- The greatest body length (R184). -/
def bodyLimit : Nat := 1100

/-- How many of the octets held from a lead octet belong to its message, as far as they tell. -/
def messageSpan (held : Nat) (b : Octets) : Nat :=
  if held < 5 then held
  else if bodyLimit < field16 b 3 then 5
  else min held (field16 b 3 + 7)

/-- A message whole: well formed when the check agrees. -/
def checkMessage (b : Octets) (length : Nat) : Received :=
  if (check16 (span b 1 (length + 4))).toNat = field16 b (length + 5) then
    .message { kind := b.getD 1 0, tag := b.getD 2 0, body := span b 5 length }
  else .fault .check

/-- The message that begins at the first of these octets, its lead octet: none while unfinished, or
what was found and how many octets it used up. After a fault the octets behind the lead octet are
examined again. A LINE fault goes before the others (log 14). -/
def readMessage (os : List LineOctet) : Option (Received × Nat) :=
  let b := lineValues os
  let held := os.length
  if ((os.take (messageSpan held b)).drop 1).any LineOctet.fault then some (.fault .line, 1)
  else if held < 5 then none
  else if bodyLimit < field16 b 3 then some (.fault .length, 1)
  else if held < field16 b 3 + 7 then none
  else
    match checkMessage b (field16 b 3) with
    | .message r => some (.message r, field16 b 3 + 7)
    | .fault reason => some (.fault reason, 1)

/-- What the receiver finds in these octets, and the octets of the message in progress. The number
bounds the octets to look at. -/
def scanMessages : Nat → List LineOctet → List Received × List LineOctet
  | 0, os => ([], os)
  | _ + 1, [] => ([], [])
  | n + 1, o :: rest =>
    if o.value ≠ 0xA7 then scanMessages n rest
    else
      match readMessage (o :: rest) with
      | none => ([], o :: rest)
      | some (found, used) =>
        let others := scanMessages n ((o :: rest).drop used)
        (found :: others.1, others.2)

/-! ### What is received (R185, R186) -/

/-- LINK_FORM_FAULT's reason code (R198). -/
def FaultReason.code : FaultReason → Octet
  | .length => 1
  | .check => 2
  | .line => 3

def LinkFaults.countFault (f : LinkFaults) : FaultReason → LinkFaults
  | .length => { f with length := satInc f.length }
  | .check => { f with check := satInc f.check }
  | .line => { f with line := satInc f.line }

def LinkFaults.countDropped (f : LinkFaults) : LinkFaults := { f with dropped := satInc f.dropped }

/-- The QUEUE_FULL replies still waiting. -/
def Control.queueFullWaiting (c : Control) : Nat :=
  (c.replies.filter fun r => decide (r.code = .queueFull)).length

/-- A well-formed request arrives (R186). -/
def Control.accept (c : Control) (r : Request) : Control :=
  if c.requests.length < 4 then { c with requests := c.requests ++ [r] }
  else if c.queueFullWaiting < 4 then
    c.place { kind := r.kind, tag := r.tag, code := .queueFull, result := [] }
  else (c.countFault LinkFaults.countDropped).raise .linkFormFault [4]

/-- One thing the receiver found, and then the choice of an idle transmitter (R189; log 13). -/
def Control.found (c : Control) : Received → Control
  | .message r => (c.accept r).choose
  | .fault reason =>
    ((c.countFault fun f => f.countFault reason).raise .linkFormFault [reason.code]).choose

def messageReceived (octets : List LineOctet) (s : State) : State :=
  let os := s.control.receiver ++ octets
  let scanned := scanMessages os.length os
  s.withControl (scanned.1.foldl Control.found { s.control with receiver := scanned.2 })

/-! ### The transmitter and the taking of requests of no kind (R187, R189) -/

/-- The message being sent ends; the choice that follows is that of every event (R189). -/
def transmitterFree (s : State) : State := s.withControl { s.control with transmitter := none }

/-- The oldest request, of no request kind, is taken (R187, R193, R195). -/
def unknownKind (s : State) : State :=
  match s.control.takes .unknownKind with
  | none => s
  | some (r, rest) =>
    match s.control.phase with
    | .starting => (s.withControl rest).answer r (.plain .busy)
    | .ready =>
      (s.withControl (rest.countFault LinkFaults.countUnknownKind)).answer r (.plain .unknownKind)

/-! ### REPORT_SET, PENDING_READ, STATUS, LINK_READ (R192, R195, R196) -/

def reportSet (b : Octets) (s : State) : State × Answer :=
  match toFin? 24 (field b 0), toFin? 8 (field b 1) with
  | some i, some level =>
    (s.withControl
        { s.control with reports := updateAt s.control.reports i fun r => { r with level := level } },
      .plain .done)
  | _, _ => (s, .plain .range)

def ReportRecord.octets (r : ReportRecord) : Octets :=
  [flagOctet r.pending, r.count] ++ padTo 8 r.detail

def pendingRead (_ : Octets) (s : State) : State × Answer :=
  (s.withControl s.control.clearReports,
    .done (s.control.reports.toList.flatMap ReportRecord.octets))

def StartCause.code : StartCause → Octet
  | .powerOn => 1
  | .hardReset => 2
  | .restart => 3

/-- The control unit's state: 1 for READY, which STATUS always shows. -/
def ControlPhase.code : ControlPhase → Octet
  | .starting => 0
  | .ready => 1

def statusRead (_ : Octets) (s : State) : Answer :=
  .done ([s.output.state.code] ++ be16 s.output.count.toNat
    ++ [octet s.plan.number.toNat, s.plan.stateCode, octet (s.plan.countdown.getD 0),
        octet s.alerts.alerts.length]
    ++ be16 s.store.free.length ++ [s.control.phase.code, s.control.cause.code])

def LinkFaults.octets (f : LinkFaults) : Octets :=
  be16 f.length.toNat ++ be16 f.check.toNat ++ be16 f.line.toNat ++ be16 f.dropped.toNat
    ++ be16 f.badForm.toNat ++ be16 f.unknownKind.toNat

def linkRead (_ : Octets) (s : State) : State × Answer :=
  (s.withControl (s.control.countFault fun _ => LinkFaults.zero), .done s.control.faults.octets)

/-! ### RESTART (R194, and each chapter's own values) -/

/-- The control unit's part: levels and details kept, flags, counts and link counters cleared, the
reply DONE placed, and READY raised with the cause RESTART. -/
def Control.restarted (c : Control) (tag : Octet) : Control :=
  (({ c.clearReports with faults := LinkFaults.zero, cause := .restart, restarting := none }).place
    { kind := 0x7C, tag := tag, code := .done, result := [] }).raise .ready [3]

/-- The restart: one event at every block. -/
def State.restart (s : State) (tag : Octet) : State :=
  { s with
    control := s.control.restarted tag
    plan := s.plan.restart
    ports := mapTable Port.restart s.ports
    cues := mapTable CueFilter.restart s.cues
    lines := mapTable TriggerLine.restart s.lines
    templates := s.templates.restart
    alerts := AlertUnit.initial
    store := s.store.restart
    carousels := Vector.replicate 32 Carousel.initial
    directory := s.directory.restart
    output := s.output.clearCounts }

/-- A RESTART taken while READY: at once with no assembly in progress, and otherwise it waits (R194). -/
def restartReady (r : Request) (s : State) : State :=
  if r.body ≠ [] then
    (s.withControl (s.control.countFault LinkFaults.countBadForm)).answer r (.plain .badForm)
  else if s.output.assembling then s.withControl { s.control with restarting := some r.tag }
  else s.restart r.tag

/-- RESTART (R85, R187, R194): BUSY while STARTING. -/
def restartRequest (s : State) : State :=
  match s.control.takes .restart with
  | none => s
  | some (r, rest) =>
    match s.control.phase with
    | .starting => (s.withControl rest).answer r (.plain .busy)
    | .ready => restartReady r (s.withControl rest)

/-- RESTART_AFTER_ASSEMBLY (R85): a RESTART that waits is carried out once no assembly is in progress. -/
def restartAfterAssembly (s : State) : State :=
  match s.control.restarting with
  | none => s
  | some tag => if s.output.assembling then s else s.restart tag

/-! ### Start-up and power (R193, R15, R34, R63, R84, R98, R118, R139, R150, R164, R183) -/

/-- Every block at its power-on values. What the template slots hold is given, and the raw levels of the
trigger lines are those of their inputs. -/
def State.started (s : State) (control : Control) (templates : TemplateStore) (powered : Bool) : State :=
  { powered := powered
    control := control
    services := Vector.replicate 32 none
    plan := Plan.initial
    ports := Vector.replicate 8 Port.initial
    cues := Vector.replicate 4 CueFilter.initial
    lines := mapTable (fun l => TriggerLine.initial l.raw) s.lines
    templates := templates
    alerts := AlertUnit.initial
    store := ObjectStore.initial
    carousels := Vector.replicate 32 Carousel.initial
    directory := Directory.initial
    output := Output.initial
    pending := s.pending }

/-- The end of STARTING (R193): READY, records cleared, and READY raised with the cause. -/
def Control.startingEnds (c : Control) : Control :=
  ({ c.clearReports with phase := .ready, startTimer := none }).raise .ready [c.cause.code]

/-- STARTING_END: the 30 ms have passed (R193; log 4). -/
def startingEnd (s : State) : State :=
  match s.control.phase with
  | .starting => if s.control.startTimer.due then s.withControl s.control.startingEnds else s
  | .ready => s

/-! ### The commands -/

/-- POWER_ON: power comes up. On a part that has power it is a loss of power and its return (log 5). -/
def execPowerOn (straps : BitVec 2) (s : State) : Result :=
  .next (s.started (Control.initial straps .powerOn) s.templates.startUp true)

/-- HARD_RESET: the same values with the cause hard reset (R193); nothing without power (log 5). -/
def execHardReset (straps : BitVec 2) (s : State) : Result :=
  .next
    (if s.powered then s.started (Control.initial straps .hardReset) s.templates.startUp true else s)

/-- LOSS_OF_POWER: what is volatile is gone, and an operation in progress leaves its slot to be found
DAMAGED at the next start-up (R71, R140, R150; log 5). -/
def execLossOfPower (s : State) : Result :=
  .next (s.started (Control.initial s.control.straps .powerOn) s.templates.powerOff false)

def execStartingEnd (s : State) : Result := event startingEnd s
def execMessageReceived (octets : List LineOctet) (s : State) : Result := event (messageReceived octets) s
def execUnknownKind (s : State) : Result := event unknownKind s
def execTransmitterFree (s : State) : Result := event transmitterFree s
def execReportSet (s : State) : Result := event (request .reportSet reportSet) s
def execPendingRead (s : State) : Result := event (request .pendingRead pendingRead) s
def execStatus (s : State) : Result := event (request .status (reading statusRead)) s
def execLinkRead (s : State) : Result := event (request .linkRead linkRead) s
def execRestart (s : State) : Result := event restartRequest s
def execRestartAfterAssembly (s : State) : Result := event restartAfterAssembly s

end Sys2Proof.Machine
end

