-- ==== Sys2Proof/Machine/Time.lean ====
section
/-! DEFINITION. The 1 ms time base (00_scope.md, Time): what one millisecond does to the timers. A timer
counts down and stops at 0; what its expiry does is the expiry's own command (log 3, log 4). The
expiries of the timers that stand at 0 are put in the list of commands. -/

namespace Sys2Proof.Machine

def Control.tick (c : Control) : Control := { c with startTimer := c.startTimer.tick }

def Port.tick (p : Port) : Port :=
  { p with
    listenTimer := p.listenTimer.tick
    linkTimer := p.linkTimer.tick
    period := p.period.tick }

def TriggerLine.tick (l : TriggerLine) : TriggerLine := { l with timer := l.timer.tick }

def TemplateStore.tick (t : TemplateStore) : TemplateStore :=
  { t with operation := t.operation.map fun o => { o with timer := o.timer - 1 } }

def Alert.tick (a : Alert) : Alert := if a.timed then { a with remaining := a.remaining - 1 } else a

def AlertUnit.tick (u : AlertUnit) : AlertUnit := { u with alerts := u.alerts.map Alert.tick }

/-! ### The expiries of a millisecond, in the model's order (log 3) -/

/-- The expiry of a timer, if its time has passed. -/
def Timer.expiry (t : Timer) (c : Instr) : List Instr := if t.due then [c] else []

/-- A port's: the offer word period, the listen timer, the link timer (R42, R49, R52). -/
def Port.expiries (p : Port) (n : Fin 8) : List Instr :=
  p.period.expiry (.offerWordPeriod n) ++ p.listenTimer.expiry (.listenTimerExpiry n)
    ++ p.linkTimer.expiry (.linkTimerExpiry n)

/-- The end of the operation in progress (R143, R144). -/
def TemplateStore.expiries (t : TemplateStore) : List Instr :=
  match t.operation with
  | some { kind := .erase, slot := _, timer := 0 } => [.eraseEnd]
  | some { kind := .write, slot := _, timer := 0 } => [.writeEnd]
  | _ => []

/-- The alerts whose remaining time has reached 0, in admission order (R173). -/
def AlertUnit.expiries (u : AlertUnit) : List Instr :=
  (u.alerts.filter Alert.due).map fun a => .alertTimerExpiry a.number

def Output.tick (o : Output) : Output := { o with stallTimer := o.stallTimer.tick }

/-- Every expiry that has come: the end of STARTING, the ports', the filter timers', the operation's, the
alerts', and the stall timer's. -/
def State.expiries (s : State) : List Instr :=
  s.control.startTimer.expiry .startingEnd
    ++ (List.finRange 8).flatMap (fun n => s.ports[n].expiries n)
    ++ (List.finRange 4).flatMap (fun n => s.lines[n].timer.expiry (.filterTimerExpiry n))
    ++ s.templates.expiries ++ s.alerts.expiries ++ s.output.stallTimer.expiry .stallTimerExpiry

/-- The timers one millisecond on. -/
def State.countDown (s : State) : State :=
  { s with
    control := s.control.tick
    ports := mapTable Port.tick s.ports
    lines := mapTable TriggerLine.tick s.lines
    templates := s.templates.tick
    alerts := s.alerts.tick
    output := s.output.tick }

/-- One millisecond of the part: the timers count down, and the expiries that have come join the list. -/
def State.tick (s : State) : State :=
  s.countDown.withPending (s.pending ++ s.countDown.expiries)

end Sys2Proof.Machine
end

