-- ==== Sys2Proof/Machine/Dispatch.lean ====
section
/-! DEFINITION. The meaning of every command, one arm per row of spec/opcode_table.json. -/

namespace Sys2Proof.Machine

/-- What a command does to everything but the list of waiting commands. -/
def exec (i : Instr) (s : State) : Host.Outcome State Fault Refusal :=
  match i with
  | .powerOn straps => Sys2Proof.Machine.execPowerOn straps s
  | .hardReset straps => Sys2Proof.Machine.execHardReset straps s
  | .startingEnd => Sys2Proof.Machine.execStartingEnd s
  | .messageReceived octets => Sys2Proof.Machine.execMessageReceived octets s
  | .unknownKind => Sys2Proof.Machine.execUnknownKind s
  | .transmitterFree => Sys2Proof.Machine.execTransmitterFree s
  | .svcSet => Sys2Proof.Machine.execSvcSet s
  | .svcDrop => Sys2Proof.Machine.execSvcDrop s
  | .svcRead => Sys2Proof.Machine.execSvcRead s
  | .planEdit => Sys2Proof.Machine.execPlanEdit s
  | .planCopy => Sys2Proof.Machine.execPlanCopy s
  | .planCommit => Sys2Proof.Machine.execPlanCommit s
  | .planWithdraw => Sys2Proof.Machine.execPlanWithdraw s
  | .planRead => Sys2Proof.Machine.execPlanRead s
  | .portSet => Sys2Proof.Machine.execPortSet s
  | .portRenegotiate => Sys2Proof.Machine.execPortRenegotiate s
  | .portRead => Sys2Proof.Machine.execPortRead s
  | .outputRead => Sys2Proof.Machine.execOutputRead s
  | .directoryRead => Sys2Proof.Machine.execDirectoryRead s
  | .objOpen => Sys2Proof.Machine.execObjOpen s
  | .objLoad => Sys2Proof.Machine.execObjLoad s
  | .objClose => Sys2Proof.Machine.execObjClose s
  | .objDrop => Sys2Proof.Machine.execObjDrop s
  | .objRead => Sys2Proof.Machine.execObjRead s
  | .storeStatus => Sys2Proof.Machine.execStoreStatus s
  | .storeClear => Sys2Proof.Machine.execStoreClear s
  | .carAdd => Sys2Proof.Machine.execCarAdd s
  | .carRemove => Sys2Proof.Machine.execCarRemove s
  | .carClear => Sys2Proof.Machine.execCarClear s
  | .carResume => Sys2Proof.Machine.execCarResume s
  | .carRead => Sys2Proof.Machine.execCarRead s
  | .tplErase => Sys2Proof.Machine.execTplErase s
  | .tplWrite => Sys2Proof.Machine.execTplWrite s
  | .tplLock => Sys2Proof.Machine.execTplLock s
  | .tplUnlock => Sys2Proof.Machine.execTplUnlock s
  | .tplRead => Sys2Proof.Machine.execTplRead s
  | .trigSet => Sys2Proof.Machine.execTrigSet s
  | .trigRead => Sys2Proof.Machine.execTrigRead s
  | .cueSet => Sys2Proof.Machine.execCueSet s
  | .cueRead => Sys2Proof.Machine.execCueRead s
  | .alertRaise => Sys2Proof.Machine.execAlertRaise s
  | .alertClear => Sys2Proof.Machine.execAlertClear s
  | .alertList => Sys2Proof.Machine.execAlertList s
  | .reportSet => Sys2Proof.Machine.execReportSet s
  | .pendingRead => Sys2Proof.Machine.execPendingRead s
  | .status => Sys2Proof.Machine.execStatus s
  | .linkRead => Sys2Proof.Machine.execLinkRead s
  | .restart => Sys2Proof.Machine.execRestart s
  | .restartAfterAssembly => Sys2Proof.Machine.execRestartAfterAssembly s
  | .framePull => Sys2Proof.Machine.execFramePull s
  | .streamTake => Sys2Proof.Machine.execStreamTake s
  | .cellRequest => Sys2Proof.Machine.execCellRequest s
  | .alertCellRequest => Sys2Proof.Machine.execAlertCellRequest s
  | .frameAssemblyComplete => Sys2Proof.Machine.execFrameAssemblyComplete s
  | .outputTransmissionEnd => Sys2Proof.Machine.execOutputTransmissionEnd s
  | .stallTimerExpiry => Sys2Proof.Machine.execStallTimerExpiry s
  | .offerWordReceived port octets => Sys2Proof.Machine.execOfferWordReceived port octets s
  | .offerWordPeriod port => Sys2Proof.Machine.execOfferWordPeriod port s
  | .listenTimerExpiry port => Sys2Proof.Machine.execListenTimerExpiry port s
  | .linkTimerExpiry port => Sys2Proof.Machine.execLinkTimerExpiry port s
  | .contributionFrame port octets => Sys2Proof.Machine.execContributionFrame port octets s
  | .triggerRawChange line level => Sys2Proof.Machine.execTriggerRawChange line level s
  | .filterTimerExpiry line => Sys2Proof.Machine.execFilterTimerExpiry line s
  | .alertTimerExpiry number => Sys2Proof.Machine.execAlertTimerExpiry number s
  | .eraseEnd => Sys2Proof.Machine.execEraseEnd s
  | .writeEnd => Sys2Proof.Machine.execWriteEnd s
  | .bitFault page group bits => Sys2Proof.Machine.execBitFault page group bits s
  | .lossOfPower => Sys2Proof.Machine.execLossOfPower s

end Sys2Proof.Machine
end

