-- ==== Sys2Proof/Machine/Step.lean ====
section
/-! DEFINITION. One step: the command at the front of the list, or one millisecond when none waits. -/

namespace Sys2Proof.Machine

/-- The step. With no command waiting, one millisecond passes, and only for a part with power; it puts the
expiries of the timers that stand at 0 in the list (log 3). -/
def step (s : State) : Host.Outcome State Fault Refusal :=
  match s.pending with
  | [] => .next (if s.powered then s.tick else s)
  | c :: rest => exec c (s.withPending rest)

/-- The state with the command that a word spells put in front of those waiting. -/
def State.withFetchWord (s : State) (nbits w : Nat) : State :=
  match decodeTableWord nbits w with
  | none => s
  | some c => s.withPending (c :: s.pending)

end Sys2Proof.Machine
end

