-- ==== Sys2Proof/Safety.lean ====
section
/-! DEFINITION. The laws the manual says the blocks keep, as conditions on a state, and the words that
statements about requests use. -/

namespace Sys2Proof.Machine

/-! ### Requests about to be taken -/

/-- The control unit of a part with power is READY, and takes request r next (R187): none is being
carried out, and only QUEUE_FULL replies wait. -/
structure Taking (s : State) (r : Request) (rest : List Request) : Prop where
  powered : s.powered = true
  ready : s.control.phase = .ready
  free : s.control.restarting = none
  begun : ∀ x ∈ s.control.replies, x.code = .queueFull
  oldest : s.control.requests = r :: rest

/-- The state right after the take: the request has left the queue. -/
def State.taken (s : State) (rest : List Request) : State :=
  s.withControl { s.control with requests := rest }

/-- The state with a request's reply placed, after the transmitter's choice (R187 to R189). -/
def State.replied (s : State) (r : Request) (code : ReplyCode) (result : Octets) : State :=
  (s.answer r { code := code, result := result }).choose

/-- Octets as the control link delivers them when its line reports no fault. -/
def clean (b : Octets) : List LineOctet := b.map fun o => { value := o, fault := false }

/-! ### Values within the ranges of their tables -/

/-- R1, R2, R3: a record that SVC_SET can give. -/
structure Service.Valid (v : Service) : Prop where
  id : v.id ≠ 0
  short : 1 ≤ v.shortName.length ∧ v.shortName.length ≤ 8 ∧ v.shortName.all isNameCharacter = true
  long : ∀ n, v.longName = some n → 1 ≤ n.length ∧ n.length ≤ 16 ∧ n.all isNameCharacter = true
  bound : v.kind = .data → v.binding = none
  regions : v.regions ≠ 0

/-- R140, R166: a content of a template (text of 1 octet or more) or of an alert (0 or more). -/
structure AlertContent.Valid (c : AlertContent) (leastText : Nat) : Prop where
  level : c.level ≠ 0
  regions : c.regions ≠ 0
  duration : c.duration ≤ 3600
  text : leastText ≤ c.text.length ∧ c.text.length ≤ 240

/-- R152, R160: a template slot with its fallback. -/
structure SourceContent.Valid (c : SourceContent) : Prop where
  level : c.level ≠ 0
  regions : c.regions ≠ 0

/-- R152, R159: a configuration that TRIG_SET can give. -/
structure LineConfig.Valid (c : LineConfig) : Prop where
  source : c.source.Valid
  held : c.mode = .held → c.edge ≠ .both
  time : 1 ≤ c.filterTime ∧ c.filterTime ≤ 255

/-- R160: a configuration that CUE_SET can give. -/
structure CueConfig.Valid (c : CueConfig) : Prop where
  source : c.raises = true → c.source.Valid
  count : 1 ≤ c.segments.length ∧ c.segments.length ≤ 4
  segments : ∀ g ∈ c.segments, 1 ≤ g.pattern.length ∧ g.pattern.length ≤ 8 ∧
    g.mask.length = g.pattern.length ∧ g.offset ≤ 63 ∧ g.offset + g.pattern.length ≤ 64

/-- R39: a configuration that PORT_SET can give. -/
structure PortConfig.Valid (c : PortConfig) : Prop where
  permitted : c.permitted ≠ 0
  interval : 100 ≤ c.interval ∧ c.interval ≤ 5000

/-! ### What the assembler passes -/

/-- The progress of an assembly whose first run has its audio portion done. -/
def Assembly.audioPassed (a : Assembly) (cells : List (Nat × Cell)) : Assembly :=
  { a with
    frame := { a.frame with cells := a.frame.cells ++ cells }
    progress := { a.progress with audioDone := true } }

/-- The first answer kept for a stream in this assembly (R75). -/
def Assembly.Kept (a : Assembly) (x : Stream) (answer : Option QueuedFrame) : Prop :=
  ∃ pre post, a.progress.answers = pre ++ (x, answer) :: post ∧ ∀ y ∈ pre, y.1 ≠ x

/-- R73 to R76: what an assembly passes without a take and without a cell request: a run whose data share
is placed, an audio portion without a source, and an audio portion whose stream was taken before in this
assembly, filled from the answer kept or counted as a fit fault, and not as a second underrun. That it is
passed within the event that reaches it is log 21. -/
inductive Assembly.Passes : Assembly → Assembly → Prop where
  | nothing (a : Assembly) : Assembly.Passes a a
  | finished (a b : Assembly) (r : FrameRun) (more : List FrameRun) :
      a.progress.runs = r :: more → a.progress.audioDone = true → r.run.share ≤ a.progress.cellsDone →
      Assembly.Passes
        { a with progress := { a.progress with runs := more, audioDone := false, cellsDone := 0 } } b →
      Assembly.Passes a b
  | noSource (a b : Assembly) (r : FrameRun) (more : List FrameRun) :
      a.progress.runs = r :: more → a.progress.audioDone = false → r.source = none →
      Assembly.Passes (a.audioPassed []) b → Assembly.Passes a b
  | keptNone (a b : Assembly) (r : FrameRun) (more : List FrameRun) (x : Stream) :
      a.progress.runs = r :: more → a.progress.audioDone = false → r.source = some x → a.Kept x none →
      Assembly.Passes (a.audioPassed []) b → Assembly.Passes a b
  | keptFits (a b : Assembly) (r : FrameRun) (more : List FrameRun) (x : Stream) (f : QueuedFrame) :
      a.progress.runs = r :: more → a.progress.audioDone = false → r.source = some x →
      a.Kept x (some f) → 10 * f.format.number ≤ r.run.length - r.run.share →
      Assembly.Passes
        (a.audioPassed ((List.range (10 * f.format.number)).map fun i =>
          (r.run.start + i, .audio (span f.payload (36 * i) 36)))) b →
      Assembly.Passes a b
  | keptTooLarge (a b : Assembly) (r : FrameRun) (more : List FrameRun) (x : Stream) (f : QueuedFrame) :
      a.progress.runs = r :: more → a.progress.audioDone = false → r.source = some x →
      a.Kept x (some f) → r.run.length - r.run.share < 10 * f.format.number →
      Assembly.Passes
        { a.audioPassed [] with
          faults := a.faults.set r.service (satInc a.faults[r.service])
          events := a.events ++
            [(.fitFault, [octet r.service.val, octet f.format.number]
              ++ be16 (r.run.length - r.run.share))] } b →
      Assembly.Passes a b

/-- An assembly that has nothing more to pass: every run is placed, a data-share cell is reached, or an
audio portion whose stream has not been taken yet. -/
def Assembly.Waits (a : Assembly) : Prop :=
  a.progress.runs = [] ∨ ∃ r more, a.progress.runs = r :: more ∧
    ((a.progress.audioDone = true ∧ a.progress.cellsDone < r.run.share) ∨
      (a.progress.audioDone = false ∧ ∃ x, r.source = some x ∧ ∀ y ∈ a.progress.answers, y.1 ≠ x))

/-- The state with an assembly put back into its buffer, its fit faults counted and raised. -/
def State.passed (s : State) (a : Assembly) : State :=
  (s.withOutput
    { s.output.setWork (.assembling a.frame a.progress) with fitFaults := a.faults }).raiseAll a.events

/-! ### Laws of the blocks -/

/-- R168: ALERT_ACTIVE is asserted exactly when the list holds an IN_FORCE alert. -/
def AlertActiveLaw (s : State) : Prop := s.alerts.active = s.alerts.alerts.any Alert.inForce

/-- R166, R167: at most 8 alerts, with distinct numbers other than 0, in rising stamps that the
admission counter has reached, and at most one alert for each trigger line and each cue filter. -/
structure AlertListLaw (s : State) : Prop where
  room : s.alerts.alerts.length ≤ 8
  numbers : (s.alerts.alerts.map Alert.number).Nodup
  numbered : ∀ a ∈ s.alerts.alerts, a.number ≠ 0
  order : (s.alerts.alerts.map Alert.stamp).Pairwise (· < ·)
  reached : ∀ a ∈ s.alerts.alerts, a.stamp ≤ s.alerts.counter
  sources : ∀ a ∈ s.alerts.alerts, ∀ b ∈ s.alerts.alerts, a.origin = b.origin → a.origin ≠ .host → a = b

/-- The page memory keeps its canonical form. -/
def MemoryLaw (s : State) : Prop := Memory.wf s.store.memory = true

/-- R140 to R142: a WRITTEN slot's check is that of its content, a FIXED slot is WRITTEN, a locked slot is
never ERASING or WRITING, while there is power a slot is ERASING or WRITING only under the operation
record's erase or write of it, and the slot of a recorded erase is ERASING and that of a write WRITING. -/
structure TemplateLaw (s : State) : Prop where
  checked : ∀ i : Fin 16, ∀ c, s.templates.slots[i].state = .written c →
    c.check = Config.templateCheck c.octets
  fixed : ∀ i : Fin 16, s.templates.slots[i].lock = .fixed → s.templates.slots[i].state.isWritten = true
  locked : ∀ i : Fin 16, s.templates.slots[i].lock ≠ .none → s.templates.slots[i].state.busy = false
  erasing : ∀ i : Fin 16, s.powered = true → s.templates.slots[i].state = .erasing →
    ∃ t, s.templates.operation = some { kind := .erase, slot := i, timer := t }
  writing : ∀ i : Fin 16, ∀ c, s.powered = true → s.templates.slots[i].state = .writing c →
    ∃ t, s.templates.operation = some { kind := .write, slot := i, timer := t }
  eraseRecorded : ∀ i t, s.templates.operation = some { kind := .erase, slot := i, timer := t } →
    s.templates.slots[i].state = .erasing
  writeRecorded : ∀ i t, s.templates.operation = some { kind := .write, slot := i, timer := t } →
    ∃ c, s.templates.slots[i].state = .writing c

/-- R38, R56: a port that is neither LOCKED nor SENSED has no format, no stream count and empty queues,
no queue holds more than 4 frames, and only a port in ACKING is closing (R47). -/
structure PortLaw (s : State) : Prop where
  bare : ∀ n : Fin 8, s.ports[n].state.carries = false →
    s.ports[n].format = none ∧ s.ports[n].streams = none ∧ ∀ k : Fin 4, s.ports[n].queues[k] = []
  depth : ∀ n : Fin 8, ∀ k : Fin 4, s.ports[n].queues[k].length ≤ 4
  closing : ∀ n : Fin 8, s.ports[n].exchange.closing.isSome = true → s.ports[n].state = .acking

/-- R16, R17: a bank in ascending order of start cell, without shared cells, inside cells 0 to 639. -/
def bankLaw (bank : List PlanEntry) : Prop :=
  bank.Pairwise (fun a b => a.start + a.length ≤ b.start)
    ∧ (bank.map PlanEntry.service).Nodup
    ∧ ∀ e ∈ bank, 0 < e.length ∧ e.start + e.length ≤ 640 ∧ e.share ≤ e.length

/-- R16, R17, R19, R32 for both banks. -/
structure PlanLaw (s : State) : Prop where
  active : bankLaw s.plan.active
  staged : bankLaw s.plan.staged
  counting : ∀ c, s.plan.countdown = some c → 1 ≤ c ∧ c ≤ 250
  withdrawn : s.plan.withdrawn ≤ 4

/-- R5, R17: every record named in either bank is DEFINED, with a kind that allows the entry's share. -/
def PlannedLaw (s : State) : Prop :=
  ∀ e ∈ s.plan.active ++ s.plan.staged, ∃ v, s.services[e.service] = some v
    ∧ v.kind.allowsShare e.length e.share = true

/-- R2, R3: service ids and bindings are held by one record each, and only an AUDIO record is bound. -/
structure ServiceLaw (s : State) : Prop where
  ids : ∀ i j : Fin 32, ∀ v w, s.services[i] = some v → s.services[j] = some w → v.id = w.id → i = j
  bindings : ∀ i j : Fin 32, ∀ v w, s.services[i] = some v → s.services[j] = some w →
    v.binding ≠ none → v.binding = w.binding → i = j
  kinds : ∀ i : Fin 32, ∀ v, s.services[i] = some v → v.kind = .data → v.binding = none

/-- R186, R189: at most 4 requests wait, at most 4 QUEUE_FULL replies, and at most one other reply. -/
structure ControlLaw (s : State) : Prop where
  queue : s.control.requests.length ≤ 4
  full : s.control.queueFullWaiting ≤ 4
  one : (s.control.replies.filter fun x => decide (x.code ≠ .queueFull)).length ≤ 1
  waits : s.control.restarting.isSome = true → ∀ x ∈ s.control.replies, x.code = .queueFull

/-- R189: an idle transmitter has nothing to send. -/
def TransmitterLaw (s : State) : Prop := s.control.choose = s.control

/-- R65: the two buffers hold what the output state says. WAITING, both are EMPTY; otherwise one is LAST
SENT and the other ASSEMBLING or COMPLETE. The stall timer runs exactly while RUNNING (R70). -/
structure OutputLaw (s : State) : Prop where
  waiting : s.output.state = .waiting →
    s.output.bufferA = .empty ∧ s.output.bufferB = .empty ∧ s.output.link = .idle
  pulled : s.output.state ≠ .waiting →
    (∃ f, s.output.bufferA = .lastSent f ∧
        ((∃ g p, s.output.bufferB = .assembling g p) ∨ ∃ g, s.output.bufferB = .complete g)) ∨
      ∃ f, s.output.bufferB = .lastSent f ∧
        ((∃ g p, s.output.bufferA = .assembling g p) ∨ ∃ g, s.output.bufferA = .complete g)
  timing : s.output.stallTimer.isSome = true ↔ s.output.state = .running

/-- R120, R122: an EMPTY lane holds nothing, a lane with entries is RUNNING or HELD with one of them
current, and its entry ids differ. -/
structure laneLaw (l : Lane) : Prop where
  empty : l.entries = [] → l = Lane.initial
  current : l.entries ≠ [] → l.phase ≠ .empty ∧ ∃ e ∈ l.entries, l.current = some e.id
  ids : (l.entries.map CarouselEntry.id).Nodup

/-- R120, R122 for all 64 lanes. -/
def LaneLaw (s : State) : Prop := ∀ i : Fin 32, ∀ k : ObjectKind, laneLaw (s.lane i k)

/-- The pages of the object with index o, none when it is FREE. -/
def ObjectStore.pagesOf (st : ObjectStore) (o : Fin 128) : List Nat :=
  match st.objects[o] with
  | none => []
  | some x => x.pages

/-- R102: each page is free or belongs to one object, and the pool is in ascending order. -/
structure PageLaw (s : State) : Prop where
  pool : s.store.free.Pairwise (· < ·)
  whole : (s.store.free ++ (List.finRange 128).flatMap s.store.pagesOf).Perm (List.range 1024)

/-- R103, R104, R106: an object's pages are those its declared length needs, a LOADING object keeps the
octets of its last unfinished group as its tail, and no bit of the store is marked twice (log 10). -/
structure ObjectLaw (s : State) : Prop where
  sized : ∀ o : Fin 128, ∀ x, s.store.objects[o] = some x →
    1 ≤ x.declared ∧ x.declared ≤ x.kind.limit ∧ x.pages.length = pagesFor x.declared
      ∧ x.loaded ≤ x.declared
  tails : ∀ o : Fin 128, ∀ x, s.store.objects[o] = some x →
    if x.state = .loading then x.tail.length = x.loaded % 16
    else x.tail = [] ∧ x.loaded = x.declared
  marks : s.store.differing.Nodup

/-- The reference count of an object, 0 when it is FREE. -/
def ObjectStore.referencesTo (st : ObjectStore) (o : Fin 128) : Nat :=
  match st.objects[o] with
  | none => 0
  | some x => x.references

/-- R109, R121: entry ids are held once in the pool, each object's reference count is the number of
entries that name it, and every object named is READY or FAULTED. -/
structure ReferenceLaw (s : State) : Prop where
  ids : ((entriesInUse s.carousels).map CarouselEntry.id).Nodup
  counts : ∀ o : Fin 128,
    s.store.referencesTo o = (entriesInUse s.carousels).countP fun e => decide (e.object = o)
  named : ∀ e ∈ entriesInUse s.carousels, ∃ x, s.store.objects[e.object] = some x ∧ x.state ≠ .loading

end Sys2Proof.Machine
end

