-- ==== Sys2Proof/Certificates/Slice0/Obligations.lean ====
section
/-! DEFINITION. The statements for the provers. Those about requests start from a state in which the
control unit is about to take the request (Taking); what else they need they say. -/

open Sys2Proof Sys2Proof.Machine

/-! ### The step and the list of commands -/

/-- A step takes the command at the front of the list and runs it with the list's rest. -/
def Obligations.StepRunsTheFrontCommand : Prop :=
  ∀ (c : Instr) (rest : List Instr) (s : State), s.pending = c :: rest →
    step s = exec c (s.withPending rest)

/-- Every command completes in every state, and leaves the list of commands alone. -/
def Obligations.CommandsCompleteAndKeepTheList : Prop :=
  ∀ (c : Instr) (s : State), ∃ t, exec c s = .next t ∧ t.pending = s.pending

/-- The model's choice (log 3): with no command waiting, a step is one millisecond of the running timers
of a part with power, and nothing else but that the expiries of the timers that then stand at 0 join the
list, in the model's order: the end of STARTING, each port's period, listen timer and link timer, the
filter timers, the template operation, the alerts (R173), the stall timer. -/
def Obligations.IdleStepIsOneMillisecond : Prop :=
  ∀ s : State, s.pending = [] →
    (s.powered = false → step s = .next s) ∧
    (s.powered = true → ∃ t, step s = .next t ∧
      t.control = { s.control with startTimer := s.control.startTimer.map (· - 1) } ∧
      (∀ n : Fin 8, t.ports[n] =
        { s.ports[n] with
          listenTimer := s.ports[n].listenTimer.map (· - 1)
          linkTimer := s.ports[n].linkTimer.map (· - 1)
          period := s.ports[n].period.map (· - 1) }) ∧
      (∀ n : Fin 4, t.lines[n] = { s.lines[n] with timer := s.lines[n].timer.map (· - 1) }) ∧
      t.templates =
        { s.templates with
          operation := s.templates.operation.map fun o => { o with timer := o.timer - 1 } } ∧
      t.alerts =
        { s.alerts with
          alerts := s.alerts.alerts.map fun a =>
            if a.state = .inForce ∧ a.content.duration ≠ 0 then { a with remaining := a.remaining - 1 }
            else a } ∧
      t.output = { s.output with stallTimer := s.output.stallTimer.map (· - 1) } ∧
      t.powered = true ∧ t.services = s.services ∧ t.plan = s.plan ∧ t.cues = s.cues ∧
      t.store = s.store ∧ t.carousels = s.carousels ∧ t.directory = s.directory ∧
      t.pending =
        (if t.control.startTimer = some 0 then [.startingEnd] else [])
          ++ (List.finRange 8).flatMap (fun n =>
            (if t.ports[n].period = some 0 then [.offerWordPeriod n] else [])
              ++ (if t.ports[n].listenTimer = some 0 then [.listenTimerExpiry n] else [])
              ++ (if t.ports[n].linkTimer = some 0 then [.linkTimerExpiry n] else []))
          ++ (List.finRange 4).flatMap (fun n =>
            if t.lines[n].timer = some 0 then [.filterTimerExpiry n] else [])
          ++ (match t.templates.operation with
            | some o =>
              if o.timer = 0 then [match o.kind with | .erase => .eraseEnd | .write => .writeEnd] else []
            | none => [])
          ++ (t.alerts.alerts.filter fun a =>
              decide (a.state = .inForce ∧ a.content.duration ≠ 0 ∧ a.remaining = 0)).map
                (fun a => .alertTimerExpiry a.number)
          ++ (if t.output.stallTimer = some 0 then [.stallTimerExpiry] else []))

/-! ### Power, start-up, RESTART -/

/-- R15, R34, R63, R84, R98, R118, R139, R164, R183, R193: the values at power-on and hard reset of every
block but the template store, which StartUpReadsTheTemplates is about. The raw level of a trigger line is
that of its input. POWER_ON of a part that has power is the model's choice (log 5), and so is it that the
filter timers start, with the first sampling, at the event itself (log 36). -/
def Obligations.PowerOnAndHardResetValues : Prop :=
  ∀ (c : Instr) (straps : BitVec 2) (cause : StartCause) (s : State),
    (c = .powerOn straps ∧ cause = .powerOn) ∨
      (c = .hardReset straps ∧ cause = .hardReset ∧ s.powered = true) →
    ∃ t, exec c s = .next t ∧ t.powered = true ∧
      t.control.phase = .starting ∧ t.control.startTimer = some 30 ∧ t.control.cause = cause ∧
      t.control.straps = straps ∧ t.control.receiver = [] ∧ t.control.requests = [] ∧
      t.control.replies = [] ∧ t.control.transmitter = none ∧ t.control.restarting = none ∧
      (∀ i : Fin 24, t.control.reports[i].level = Control.defaultLevels[i] ∧
        t.control.reports[i].pending = false ∧ t.control.reports[i].count = 0) ∧
      t.control.faults = LinkFaults.zero ∧
      (∀ i : Fin 32, t.services[i] = none) ∧
      t.plan = { active := [], number := 0, staged := [], countdown := none, withdrawn := 0 } ∧
      (∀ n : Fin 8, t.ports[n].state = .disabled ∧ t.ports[n].config.enabled = false ∧
        t.ports[n].config.permitted = 0x3F ∧ t.ports[n].config.interval = 1000 ∧
        t.ports[n].config.sensing = true ∧ t.ports[n].format = none ∧ t.ports[n].streams = none ∧
        t.ports[n].exchange = { previous := none, matched := 0, acked := 0, closing := none } ∧
        t.ports[n].listenTimer = none ∧ t.ports[n].linkTimer = none ∧ t.ports[n].period = none ∧
        t.ports[n].candidate = none ∧ t.ports[n].counters = PortCounters.zero ∧
        ∀ k : Fin 4, t.ports[n].queues[k] = [] ∧ t.ports[n].sequences[k] = none) ∧
      (∀ n : Fin 4, t.cues[n].hits = 0 ∧ t.cues[n].config =
        { enabled := false, port := 0, stream := some 0, raises := false
          source := { slot := 0, level := 7, regions := 0xFFFF }
          segments := [{ offset := 0, pattern := [0], mask := [0] }] }) ∧
      (∀ n : Fin 4, t.lines[n] =
        { config :=
            { enabled := false, edge := .rising, mode := .pulse
              source := { slot := 0, level := 7, regions := 0xFFFF }, filterTime := 20 }
          raw := s.lines[n].raw, settled := none, timer := some 20, pending := false }) ∧
      t.alerts.alerts = [] ∧ t.alerts.lastNumber = 0 ∧ t.alerts.counter = 0 ∧ t.alerts.active = false ∧
      (∀ i : Fin 32, t.alerts.takers[i] = none ∧ t.alerts.cursors[i] = 0) ∧
      (∀ o : Fin 128, t.store.objects[o] = none) ∧ t.store.free = List.range 1024 ∧
      t.store.corrected = 0 ∧ t.store.uncorrectable = 0 ∧ t.store.correctedCapture = none ∧
      t.store.uncorrectableCapture = none ∧
      (∀ i : Fin 32, ∀ k : ObjectKind, t.lane i k =
        { phase := .empty, entries := [], current := none, cursor := 0, done := 0, owed := none }) ∧
      t.directory =
        { rotation := [], fresh := [], cursor := 0, mark := none, restarted := false, superseded := 0 } ∧
      t.output =
        { state := .waiting, bufferA := .empty, bufferB := .empty, count := 0, link := .idle
          stallTimer := none, repeats := 0, stalls := 0, earlyPulls := 0
          fitFaults := Vector.replicate 32 0 }

/-- R141, R150: what the start-up read finds in each slot, by its state and its check, and what becomes of
the locks and the mirror; and a loss of power leaves the slots for it to read (log 5, which POWER_ON of a
part that has power rests on too). -/
def Obligations.StartUpReadsTheTemplates : Prop :=
  (∀ (c : Instr) (straps : BitVec 2) (s : State),
    c = .powerOn straps ∨ (c = .hardReset straps ∧ s.powered = true) →
    ∃ t, exec c s = .next t ∧ t.templates.operation = none ∧
      ∀ i : Fin 16,
        (t.templates.slots[i].lock = if s.templates.slots[i].lock = .fixed then .fixed else .none) ∧
        match s.templates.slots[i].state with
        | .blank => t.templates.slots[i].state = .blank ∧ t.templates.mirror[i] = .blank
        | .written x =>
          (x.check = Config.templateCheck x.octets →
            t.templates.slots[i].state = .written x ∧ t.templates.mirror[i] = .written x) ∧
          (x.check ≠ Config.templateCheck x.octets →
            t.templates.slots[i].state = .damaged ∧ t.templates.mirror[i] = .damaged)
        | _ => t.templates.slots[i].state = .damaged ∧ t.templates.mirror[i] = .damaged) ∧
  (∀ s : State, ∃ t, exec .lossOfPower s = .next t ∧ t.powered = false ∧ t.output.link = .idle ∧
    t.alerts.alerts = [] ∧ t.alerts.active = false ∧ (∀ i : Fin 32, t.services[i] = none) ∧
    (∀ o : Fin 128, t.store.objects[o] = none) ∧ t.pending = s.pending ∧
    ∀ i : Fin 16, t.templates.slots[i].state = s.templates.slots[i].state ∧
      (t.templates.slots[i].lock = .fixed ↔ s.templates.slots[i].lock = .fixed))

/-- R193: while STARTING every request taken is answered BUSY, whatever its kind and body; at the end of
its 30 ms the control unit becomes READY, every flag and count is cleared, and READY is raised with the
cause. Before that STARTING_END does nothing. -/
def Obligations.StartingIsBusyAndEndsReady : Prop :=
  ∀ s : State, s.powered = true → s.control.phase = .starting →
    (∀ (r : Request) (rest : List Request), s.control.restarting = none →
      (∀ x ∈ s.control.replies, x.code = .queueFull) → s.control.requests = r :: rest →
      exec (commandOfKind r.kind) s = .next ((s.taken rest).replied r .busy [])) ∧
    (s.control.startTimer ≠ some 0 → exec .startingEnd s = .next s.choose) ∧
    (s.control.startTimer = some 0 →
      exec .startingEnd s = .next
        ((s.withControl
          { s.control with
            phase := .ready
            startTimer := none
            reports :=
              mapTable (fun r => { r with pending := false, count := 0 }) s.control.reports }).raise
          .ready [s.control.cause.code]).choose)

/-- R194: a RESTART is carried out at once with no assembly in progress, and waits otherwise; a RESTART
that waits is carried out once no assembly is in progress. -/
def Obligations.RestartIsCarriedOutOrWaits : Prop :=
  (∀ (s : State) (r : Request) (rest : List Request), Taking s r rest → r.kind = 0x7C → r.body = [] →
    exec .restart s = .next
      (if s.output.assembling then
        (s.withControl { s.control with requests := rest, restarting := some r.tag }).choose
      else ((s.taken rest).restart r.tag).choose)) ∧
  (∀ (s : State) (tag : Octet), s.powered = true → s.control.restarting = some tag →
    s.output.assembling = false → exec .restartAfterAssembly s = .next (s.restart tag).choose)

/-- R35, R41, R42, R64, R85, R99, R119, R139, R151, R165, R183, R194: the values after a RESTART, block by
block, and what is kept (the coverage decision forgotten: log 29). -/
def Obligations.RestartValues : Prop :=
  ∀ (s : State) (tag : Octet), ∃ t, t = s.restart tag ∧
    t.control.replies = s.control.replies ++ [{ kind := 0x7C, tag := tag, code := .done, result := [] }] ∧
    t.control.requests = s.control.requests ∧ t.control.receiver = s.control.receiver ∧
    t.control.transmitter = s.control.transmitter ∧ t.control.faults = LinkFaults.zero ∧
    t.control.cause = .restart ∧ t.control.restarting = none ∧ t.control.phase = s.control.phase ∧
    t.control.startTimer = s.control.startTimer ∧ t.control.straps = s.control.straps ∧
    (∀ i : Fin 24, t.control.reports[i].level = s.control.reports[i].level ∧
      (i ≠ 23 → t.control.reports[i].pending = false ∧ t.control.reports[i].count = 0 ∧
        t.control.reports[i].detail = s.control.reports[i].detail)) ∧
    t.control.reports[(23 : Fin 24)].pending = true ∧ t.control.reports[(23 : Fin 24)].count = 1 ∧
    t.control.reports[(23 : Fin 24)].detail = [3, 0, 0, 0, 0, 0, 0, 0] ∧
    t.services = s.services ∧ t.plan = { s.plan with countdown := none, withdrawn := 0 } ∧
    (∀ n : Fin 8,
      (s.ports[n].config.enabled = false →
        t.ports[n] = { s.ports[n] with counters := PortCounters.zero }) ∧
      (s.ports[n].config.enabled = true → t.ports[n] =
        { s.ports[n] with
          state := .listen, format := none, streams := none
          exchange := { previous := none, matched := 0, acked := 0, closing := none }
          listenTimer := some s.ports[n].config.interval, linkTimer := none, period := some 8
          candidate := none, sequences := Vector.replicate 4 none, queues := Vector.replicate 4 []
          counters := PortCounters.zero
          sent := some { formats := s.ports[n].config.permitted, streams := 4, ack := false } })) ∧
    (∀ n : Fin 4, t.cues[n] = { s.cues[n] with hits := 0 }) ∧
    (∀ n : Fin 4, t.lines[n] =
      { s.lines[n] with
        settled := none, timer := some s.lines[n].config.filterTime, pending := false }) ∧
    (∀ i : Fin 16, t.templates.slots[i].state = s.templates.slots[i].state ∧
      t.templates.slots[i].lock = if s.templates.slots[i].lock = .fixed then .fixed else .none) ∧
    t.templates.operation = s.templates.operation ∧ t.templates.mirror = s.templates.mirror ∧
    t.alerts.alerts = [] ∧ t.alerts.active = false ∧ t.alerts.counter = 0 ∧ t.alerts.lastNumber = 0 ∧
    (∀ i : Fin 32, t.alerts.takers[i] = none ∧ t.alerts.cursors[i] = 0 ∧
      t.alerts.decision[i] = none) ∧
    (∀ o : Fin 128, t.store.objects[o] =
      match s.store.objects[o] with
      | some x => if x.state = .loading then none else some { x with references := 0 }
      | none => none) ∧
    t.store.free.Perm (s.store.free ++ (List.finRange 128).flatMap fun o =>
      match s.store.objects[o] with
      | some x => if x.state = .loading then x.pages else []
      | none => []) ∧
    (PageLaw s → t.store.free.Pairwise (· < ·)) ∧
    t.store.memory = s.store.memory ∧ t.store.differing = s.store.differing ∧
    t.store.corrected = s.store.corrected ∧ t.store.uncorrectable = s.store.uncorrectable ∧
    t.store.correctedCapture = s.store.correctedCapture ∧
    t.store.uncorrectableCapture = s.store.uncorrectableCapture ∧
    t.powered = s.powered ∧ t.pending = s.pending ∧
    (∀ i : Fin 32, ∀ k : ObjectKind, t.lane i k =
      { phase := .empty, entries := [], current := none, cursor := 0, done := 0, owed := none }) ∧
    t.directory =
      { s.directory with fresh := [], cursor := 0, mark := none, restarted := true } ∧
    t.output =
      { s.output with
        repeats := 0, stalls := 0, earlyPulls := 0, fitFaults := Vector.replicate 32 0 }

/-! ### The control link and the reports -/

/-- R184, R186, R197: the octets of a message with a correct check, met in HUNT, put its request at the
back of a queue that has room, with every bit of kind, tag and body. -/
def Obligations.MessageReceivedJoinsTheQueue : Prop :=
  ∀ (s : State) (kind tag : Octet) (body : Octets), s.powered = true → s.control.receiver = [] →
    body.length ≤ 1100 → s.control.requests.length < 4 →
    exec (.messageReceived (clean { kind := kind, tag := tag, body := body : Message }.octets)) s
      = .next
        (s.withControl
          { s.control with
            requests := s.control.requests ++ [{ kind := kind, tag := tag, body := body }] }).choose

/-- R186: a request that finds the queue full is answered QUEUE_FULL while fewer than 4 such replies
wait, and is otherwise dropped, counted and raised. -/
def Obligations.FullQueueRefusesOrDrops : Prop :=
  ∀ (s : State) (kind tag : Octet) (body : Octets), s.powered = true → s.control.receiver = [] →
    body.length ≤ 1100 → s.control.requests.length = 4 →
    exec (.messageReceived (clean { kind := kind, tag := tag, body := body : Message }.octets)) s
      = .next
        (if s.control.queueFullWaiting < 4 then
          (s.withControl
            { s.control with
              replies := s.control.replies ++
                [{ kind := kind, tag := tag, code := .queueFull, result := [] }] }).choose
        else
          ((s.withControl
            { s.control with
              faults := { s.control.faults with dropped := satInc s.control.faults.dropped } }).raise
            .linkFormFault [4]).choose)

/-- R185: the three receive faults of a message met in HUNT: the message is discarded with no reply, the
reason is counted, LINK_FORM_FAULT is raised with it, and every octet behind the lead octet, with those
that follow, is examined again as if it arrived then. With no other lead octet behind it nothing further
is found. A line fault may be on any octet of the message behind the lead octet (log 14: a line fault goes
before the fault that its octet completes, and octets examined again keep their line faults). -/
def Obligations.ReceiveFaultsAreCounted : Prop :=
  ∀ s : State, s.powered = true → s.control.receiver = [] →
    (∀ (kind tag h l : Octet) (more : List LineOctet), 1100 < h.toNat * 256 + l.toNat →
      exec (.messageReceived (clean [0xA7, kind, tag, h, l] ++ more)) s =
        exec (.messageReceived (clean [kind, tag, h, l] ++ more))
          ((s.withControl
            { s.control with
              faults := { s.control.faults with length := satInc s.control.faults.length } }).raise
            .linkFormFault [1]).choose) ∧
    (∀ (b : Octets) (high low : Octet) (more : List LineOctet), 4 ≤ b.length →
      b.length = field16 b 2 + 4 → field16 b 2 ≤ 1100 →
      (check16 b).toNat ≠ high.toNat * 256 + low.toNat →
      exec (.messageReceived (clean (0xA7 :: b ++ [high, low]) ++ more)) s =
        exec (.messageReceived (clean (b ++ [high, low]) ++ more))
          ((s.withControl
            { s.control with
              faults := { s.control.faults with check := satInc s.control.faults.check } }).raise
            .linkFormFault [2]).choose) ∧
    (∀ (b : Octets) (o : Octet) (more : List LineOctet),
      b.length < 4 ∨ (field16 b 2 ≤ 1100 ∧ b.length < field16 b 2 + 6) →
      exec (.messageReceived (clean (0xA7 :: b) ++ { value := o, fault := true } :: more)) s =
        exec (.messageReceived (clean b ++ { value := o, fault := true } :: more))
          ((s.withControl
            { s.control with
              faults := { s.control.faults with line := satInc s.control.faults.line } }).raise
            .linkFormFault [3]).choose) ∧
    (∀ kind tag h l : Octet, kind ≠ 0xA7 → tag ≠ 0xA7 → h ≠ 0xA7 → l ≠ 0xA7 →
      1100 < h.toNat * 256 + l.toNat →
      exec (.messageReceived (clean [0xA7, kind, tag, h, l])) s = .next
        ((s.withControl
          { s.control with
            faults := { s.control.faults with length := satInc s.control.faults.length } }).raise
          .linkFormFault [1]).choose) ∧
    (∀ (b : Octets) (high low : Octet), 0xA7 ∉ b → high ≠ 0xA7 → low ≠ 0xA7 → 4 ≤ b.length →
      b.length = field16 b 2 + 4 → field16 b 2 ≤ 1100 →
      (check16 b).toNat ≠ high.toNat * 256 + low.toNat →
      exec (.messageReceived (clean (0xA7 :: b ++ [high, low]))) s = .next
        ((s.withControl
          { s.control with
            faults := { s.control.faults with check := satInc s.control.faults.check } }).raise
          .linkFormFault [2]).choose) ∧
    (∀ (b : Octets) (o : Octet), 0xA7 ∉ b → o ≠ 0xA7 →
      b.length < 4 ∨ (field16 b 2 ≤ 1100 ∧ b.length < field16 b 2 + 6) →
      exec (.messageReceived (clean (0xA7 :: b) ++ [{ value := o, fault := true }])) s
        = .next
          ((s.withControl
            { s.control with
              faults := { s.control.faults with line := satInc s.control.faults.line } }).raise
            .linkFormFault [3]).choose)

/-- R187, R195: a request of no request kind is answered UNKNOWN_KIND, and one whose body length its kind
does not allow BAD_FORM; each is counted, and nothing else changes. -/
def Obligations.UnfitRequestsAreRefused : Prop :=
  ∀ (s : State) (r : Request) (rest : List Request), Taking s r rest →
    (requestRow r.kind = none →
      exec .unknownKind s = .next
        ((s.withControl
          { s.control with
            requests := rest
            faults :=
              { s.control.faults with unknownKind := satInc s.control.faults.unknownKind } }).replied r
          .unknownKind [])) ∧
    (∀ c least greatest, requestRow r.kind = some (c, least, greatest) →
      (r.body.length < least ∨ greatest < r.body.length) →
      exec c s = .next
        ((s.withControl
          { s.control with
            requests := rest
            faults := { s.control.faults with badForm := satInc s.control.faults.badForm } }).replied r
          .badForm []))

/-- R189, R191: when a message ends, the oldest reply goes out; with no reply waiting and the control unit
READY, the notice of the pending source of highest level, the lowest index among equals, whose flag and
count are cleared as it begins. -/
def Obligations.TransmitterSendsRepliesThenNotices : Prop :=
  ∀ (s : State) (m : Message), s.powered = true → s.control.transmitter = some m →
    (∀ (r : Reply) (rest : List Reply), s.control.replies = r :: rest →
      exec .transmitterFree s = .next
        (s.withControl
          { s.control with
            replies := rest
            transmitter := some
              { kind := 0x80, tag := r.tag, body := r.kind :: r.code.number :: r.result } })) ∧
    (∀ i : Fin 24, s.control.replies = [] → s.control.phase = .ready →
      s.control.reports[i].pending = true → s.control.reports[i].level ≠ 0 →
      (∀ j : Fin 24, s.control.reports[j].pending = true →
        s.control.reports[j].level < s.control.reports[i].level ∨
          (s.control.reports[j].level = s.control.reports[i].level ∧ i ≤ j)) →
      exec .transmitterFree s = .next
        (s.withControl
          { s.control with
            transmitter := some
              { kind := 0x81, tag := 0
                body := octet i.val :: s.control.reports[i].count :: s.control.reports[i].detail }
            reports := s.control.reports.set i
              { s.control.reports[i] with pending := false, count := 0 } })) ∧
    (s.control.replies = [] →
      (s.control.phase = .starting ∨
        ∀ j : Fin 24, s.control.reports[j].pending = false ∨ s.control.reports[j].level = 0) →
      exec .transmitterFree s = .next (s.withControl { s.control with transmitter := none }))

/-- R190: an event changes the record of its source and nothing else: the flag is set, the count rises and
stays at 255, and the detail is replaced. -/
def Obligations.RaiseRecordsTheEvent : Prop :=
  ∀ (s : State) (source : ReportSource) (detail : Octets), detail.length ≤ 8 →
    ∃ t, s.raise source detail = s.withControl { s.control with reports := t } ∧
      t[source.index].pending = true ∧
      t[source.index].count
        = (if s.control.reports[source.index].count = 255 then 255
          else s.control.reports[source.index].count + 1) ∧
      t[source.index].detail = detail ++ List.replicate (8 - detail.length) 0 ∧
      t[source.index].level = s.control.reports[source.index].level ∧
      ∀ i : Fin 24, i ≠ source.index → t[i] = s.control.reports[i]

/-- R192, R195, R196: REPORT_SET, PENDING_READ, LINK_READ and STATUS. -/
def Obligations.ControlUnitRequests : Prop :=
  ∀ (s : State) (r : Request) (rest : List Request), Taking s r rest →
    (∀ (i : Fin 24) (level : Fin 8), r.kind = 0x78 → r.body = [octet i.val, octet level.val] →
      exec .reportSet s = .next
        ((s.withControl
          { s.control with
            requests := rest
            reports := s.control.reports.set i { s.control.reports[i] with level := level } }).replied r
          .done [])) ∧
    (r.kind = 0x79 → r.body = [] →
      exec .pendingRead s = .next
        ((s.withControl
          { s.control with
            requests := rest
            reports :=
              mapTable (fun x => { x with pending := false, count := 0 }) s.control.reports }).replied r
          .done
          (s.control.reports.toList.flatMap fun x =>
            ([if x.pending then 1 else 0, x.count] : Octets) ++ padTo 8 x.detail))) ∧
    (r.kind = 0x7B → r.body = [] →
      exec .linkRead s = .next
        ((s.withControl { s.control with requests := rest, faults := LinkFaults.zero }).replied r .done
          (be16 s.control.faults.length.toNat ++ be16 s.control.faults.check.toNat
            ++ be16 s.control.faults.line.toNat ++ be16 s.control.faults.dropped.toNat
            ++ be16 s.control.faults.badForm.toNat ++ be16 s.control.faults.unknownKind.toNat))) ∧
    (r.kind = 0x7A → r.body = [] →
      exec .status s = .next
        ((s.taken rest).replied r .done
          (([match s.output.state with | .waiting => 0 | .running => 1 | .stalled => 2] : Octets)
            ++ be16 s.output.count.toNat
            ++ [octet s.plan.number.toNat, if s.plan.countdown.isSome then 1 else 0,
                octet (s.plan.countdown.getD 0), octet s.alerts.alerts.length]
            ++ be16 s.store.free.length
            ++ ([1, match s.control.cause with | .powerOn => 1 | .hardReset => 2 | .restart => 3] : Octets))))

/-! ### The service table -/

/-- R6 to R8: the octets of a record within its ranges, sent to an index where no check fails, make that
record DEFINED with every field as sent; the three checks, in their order, refuse it with nothing changed. -/
def Obligations.SvcSetDefinesOrRefuses : Prop :=
  ∀ (s : State) (r : Request) (rest : List Request) (i : Fin 32) (v : Service), Taking s r rest →
    r.kind = 0x10 → r.body = octet i.val :: v.octets → v.Valid →
    (∀ w, s.services[i] = some w → (s.plan.onAir i = true ∨ s.plan.isStaged i = true) →
      w.id ≠ v.id ∨ w.kind ≠ v.kind → exec .svcSet s = .next ((s.taken rest).replied r .onAir [])) ∧
    ((∀ w, s.services[i] = some w → (s.plan.onAir i = true ∨ s.plan.isStaged i = true) →
        w.id = v.id ∧ w.kind = v.kind) →
      (∀ j w, j ≠ i → s.services[j] = some w → w.id = v.id →
        exec .svcSet s = .next ((s.taken rest).replied r .inUse [])) ∧
      ((∀ j w, j ≠ i → s.services[j] = some w → w.id ≠ v.id) →
        (∀ j w, j ≠ i → s.services[j] = some w → v.binding ≠ none → w.binding = v.binding →
          exec .svcSet s = .next ((s.taken rest).replied r .boundElsewhere [])) ∧
        ((∀ j w, j ≠ i → s.services[j] = some w → v.binding ≠ none → w.binding ≠ v.binding) →
          exec .svcSet s = .next
            (((s.taken rest).withServices (s.services.set i (some v))).replied r .done []))))

/-- R13, R183: a drop of a record in no plan bank leaves it UNUSED, its lanes EMPTY, its takeover history
forgotten, and each object with one reference less for each entry that named it; the other records, lanes
and blocks stay. -/
def Obligations.SvcDropLeavesNoTrace : Prop :=
  ∀ (s : State) (r : Request) (rest : List Request) (i : Fin 32), Taking s r rest →
    r.kind = 0x11 → r.body = [octet i.val] → s.services[i] ≠ none → s.plan.onAir i = false →
    s.plan.isStaged i = false → LaneLaw s →
    ∃ t : State, exec .svcDrop s = .next (t.replied r .done []) ∧ t.control = (s.taken rest).control ∧
      t.services = s.services.set i none ∧
      t.carousels = s.carousels.set i { text := Lane.initial, picture := Lane.initial } ∧
      t.alerts = { s.alerts with
        takers := s.alerts.takers.set i none, cursors := s.alerts.cursors.set i 0 } ∧
      (∀ o : Fin 128, t.store.objects[o] = s.store.objects[o].map fun x =>
        { x with references := x.references -
          (((s.lane i .text).entries ++ (s.lane i .picture).entries).countP
            fun e => decide (e.object = o)) }) ∧
      t.store.memory = s.store.memory ∧ t.store.free = s.store.free ∧ t.plan = s.plan ∧
      t.ports = s.ports ∧ t.cues = s.cues ∧ t.lines = s.lines ∧ t.templates = s.templates ∧
      t.directory = s.directory ∧ t.output = s.output ∧ t.pending = s.pending ∧ t.powered = s.powered

/-! ### The plan unit -/

/-- R20, R21: with the STAGED bank OPEN, a run within range that fits its service's kind and overlaps no
other service's run replaces the service's entry; a length of 0 removes it. -/
def Obligations.PlanEditStagesOrRemoves : Prop :=
  ∀ (s : State) (r : Request) (rest : List Request) (i : Fin 32) (start length share : Nat),
    Taking s r rest → r.kind = 0x20 →
    r.body = [octet i.val] ++ be16 start ++ be16 length ++ be16 share → s.plan.countdown = none →
    start < 65536 → length < 65536 → share < 65536 →
    (length = 0 →
      exec .planEdit s = .next
        (((s.taken rest).withPlan
          { s.plan with staged := s.plan.staged.filter fun e => e.service ≠ i }).replied r .done [])) ∧
    (∀ v, s.services[i] = some v → 1 ≤ length → start ≤ 639 → start + length ≤ 640 → share ≤ length →
      (v.kind = .audio → share < length) → (v.kind = .data → share = length) →
      (∀ e ∈ s.plan.staged, e.service ≠ i →
        e.start + e.length ≤ start ∨ start + length ≤ e.start) →
      (∀ e ∈ s.plan.staged, 0 < e.length) →
      exec .planEdit s = .next
        (((s.taken rest).withPlan
          { s.plan with
            staged := insertEntry { service := i, start := start, length := length, share := share }
              (s.plan.staged.filter fun e => e.service ≠ i) }).replied r .done []))

/-- R19, R23, R25, R31: PLAN_COPY and PLAN_COMMIT in OPEN, PLAN_WITHDRAW by the countdown, and the three
refused BUSY in COMMITTED. -/
def Obligations.PlanCopyCommitWithdraw : Prop :=
  ∀ (s : State) (r : Request) (rest : List Request), Taking s r rest →
    (r.kind = 0x21 → r.body = [] → s.plan.countdown = none →
      exec .planCopy s = .next
        (((s.taken rest).withPlan { s.plan with staged := s.plan.active }).replied r .done [])) ∧
    (∀ c : Octet, r.kind = 0x22 → r.body = [c] → s.plan.countdown = none → 2 ≤ c.toNat →
      c.toNat ≤ 250 →
      exec .planCommit s = .next
        (((s.taken rest).withPlan
          { s.plan with countdown := some c.toNat, withdrawn := 0 }).replied r .done [])) ∧
    (∀ c, r.kind = 0x23 → r.body = [] → s.plan.countdown = some c → 2 ≤ c →
      exec .planWithdraw s = .next
        (((s.taken rest).withPlan
          { s.plan with countdown := none, withdrawn := 4 }).replied r .done [])) ∧
    (r.kind = 0x23 → r.body = [] → s.plan.countdown = some 1 →
      exec .planWithdraw s = .next ((s.taken rest).replied r .tooLate [])) ∧
    (r.kind = 0x23 → r.body = [] → s.plan.countdown = none →
      exec .planWithdraw s = .next ((s.taken rest).replied r .notCommitted [])) ∧
    (s.plan.countdown.isSome = true →
      (r.kind = 0x20 → r.body.length = 7 →
        exec .planEdit s = .next ((s.taken rest).replied r .busy [])) ∧
      (r.kind = 0x21 → r.body = [] → exec .planCopy s = .next ((s.taken rest).replied r .busy [])) ∧
      (r.kind = 0x22 → r.body.length = 1 →
        exec .planCommit s = .next ((s.taken rest).replied r .busy [])))

/-- R27, R28, R30, R32, R36: what the plan unit does at a frame assembly start, and the account it gives
the frame. -/
def Obligations.CountdownStepsAndSwitches : Prop :=
  ∀ p : Plan, p.withdrawn ≤ 4 →
    (p.countdown = some 1 → p.withdrawn = 0 →
      p.start =
        ({ p with active := p.staged, number := p.number + 1, countdown := none },
          { entries := p.staged, number := p.number + 1, countdown := 0, announcement := .none
            staged := [], switched := true },
          [(.planSwitched, [octet (p.number + 1).toNat, octet p.staged.length])])) ∧
    (∀ c, p.countdown = some c → 2 ≤ c → p.withdrawn = 0 →
      p.start =
        ({ p with countdown := some (c - 1) },
          { entries := p.active, number := p.number, countdown := c - 1
            announcement := .next (c - 1) p.staged.length (p.number + 1)
            staged := p.staged, switched := false },
          [])) ∧
    (p.countdown = none →
      p.start =
        ({ p with withdrawn := p.withdrawn - 1 },
          { entries := p.active, number := p.number, countdown := 0
            announcement :=
              if p.withdrawn = 0 then .none else .withdrawn p.number (p.withdrawn - 1)
            staged := [], switched := false },
          []))

/-- R14, R24, R62, R83, R97: SVC_READ (of an UNUSED record 38 octets of 0: log 25), PLAN_READ, PORT_READ,
OUTPUT_READ and DIRECTORY_READ give the state as it stands; the last three clear the counters they report,
and nothing else changes. -/
def Obligations.ReadRequestsReturnTheState : Prop :=
  ∀ (s : State) (r : Request) (rest : List Request), Taking s r rest →
    (∀ i : Fin 32, r.kind = 0x12 → r.body = [octet i.val] →
      (∀ v, s.services[i] = some v →
        exec .svcRead s = .next ((s.taken rest).replied r .done
          ([octet i.val] ++ v.octets ++ [1, octet ((if s.plan.onAir i then 1 else 0)
            + if s.plan.isStaged i then 2 else 0)]))) ∧
      (s.services[i] = none →
        exec .svcRead s = .next ((s.taken rest).replied r .done (List.replicate 38 0)))) ∧
    (r.kind = 0x24 → r.body = [0] →
      exec .planRead s = .next ((s.taken rest).replied r .done
        ([0, 0, 0, octet s.plan.number.toNat, octet s.plan.active.length]
          ++ s.plan.active.flatMap fun e =>
            [octet e.service.val] ++ be16 e.start ++ be16 e.length ++ be16 e.share))) ∧
    (r.kind = 0x24 → r.body = [1] →
      exec .planRead s = .next ((s.taken rest).replied r .done
        ([1, flagOctet s.plan.countdown.isSome, octet (s.plan.countdown.getD 0),
            octet s.plan.number.toNat, octet s.plan.staged.length]
          ++ s.plan.staged.flatMap fun e =>
            [octet e.service.val] ++ be16 e.start ++ be16 e.length ++ be16 e.share))) ∧
    (∀ n : Fin 8, r.kind = 0x32 → r.body = [octet n.val] →
      exec .portRead s = .next
        (((s.taken rest).withPorts
          (s.ports.set n { s.ports[n] with counters := PortCounters.zero })).replied r .done
          ([octet n.val, flagOctet s.ports[n].config.enabled,
              octet s.ports[n].config.permitted.toNat]
            ++ be16 s.ports[n].config.interval
            ++ [flagOctet s.ports[n].config.sensing, s.ports[n].state.code,
                formatOctet s.ports[n].format, octet (s.ports[n].streams.getD 0)]
            ++ s.ports[n].queues.toList.map (fun q => octet q.length)
            ++ be16 s.ports[n].counters.checkFailures.toNat
            ++ be16 s.ports[n].counters.formatMismatches.toNat
            ++ be16 s.ports[n].counters.sequenceGaps.toNat
            ++ be16 s.ports[n].counters.overruns.toNat
            ++ be16 s.ports[n].counters.underruns.toNat
            ++ be16 s.ports[n].counters.linkLosses.toNat))) ∧
    (r.kind = 0x38 → r.body = [] →
      exec .outputRead s = .next
        (((s.taken rest).withOutput
          { s.output with
            repeats := 0, stalls := 0, earlyPulls := 0
            fitFaults := Vector.replicate 32 0 }).replied r .done
          ([s.output.state.code] ++ be16 s.output.count.toNat ++ be16 s.output.repeats.toNat
            ++ be16 s.output.stalls.toNat ++ be16 s.output.earlyPulls.toNat
            ++ s.output.fitFaults.toList.flatMap fun n => be16 n.toNat))) ∧
    (r.kind = 0x39 → r.body = [] →
      exec .directoryRead s = .next
        (((s.taken rest).withDirectory { s.directory with superseded := 0 }).replied r .done
          ([octet s.directory.rotation.length, octet s.directory.cursor,
              octet s.directory.fresh.length]
            ++ be16 s.directory.superseded.toNat
            ++ s.directory.fresh.flatMap fun k =>
              [match k.kind with | .service => 1 | .longname => 2 | .nextrun => 3,
                octet k.service.val])))

/-! ### The contributor ports -/

/-- R40, R41, R42, R58: PORT_SET and PORT_RENEGOTIATE. An enabled port enters LISTEN whatever its state:
queues flushed, no format, a fresh listen interval, no link timer, and a first offer word with ack 0. -/
def Obligations.PortSetAndRenegotiate : Prop :=
  ∀ (s : State) (r : Request) (rest : List Request) (n : Fin 8), Taking s r rest →
    (∀ c : PortConfig, c.Valid → r.kind = 0x30 →
      r.body = [octet n.val, flagOctet c.enabled, octet c.permitted.toNat] ++ be16 c.interval
        ++ [flagOctet c.sensing] →
      ∃ p : Port, exec .portSet s = .next (((s.taken rest).withPorts (s.ports.set n p)).replied r .done [])
        ∧ p.config = c ∧ p.counters = s.ports[n].counters ∧ p.format = none ∧ p.streams = none ∧
        p.exchange = { previous := none, matched := 0, acked := 0, closing := none } ∧
        p.candidate = none ∧ p.linkTimer = none ∧
        (∀ k : Fin 4, p.queues[k] = [] ∧ p.sequences[k] = none) ∧
        (c.enabled = true → p.state = .listen ∧ p.listenTimer = some c.interval ∧ p.period = some 8 ∧
          p.sent = some { formats := c.permitted, streams := 4, ack := false }) ∧
        (c.enabled = false → p.state = .disabled ∧ p.listenTimer = none ∧ p.period = none)) ∧
    (r.kind = 0x31 → r.body = [octet n.val] → s.ports[n].state ≠ .disabled →
      ∃ p : Port,
        exec .portRenegotiate s = .next (((s.taken rest).withPorts (s.ports.set n p)).replied r .done [])
        ∧ p.config = s.ports[n].config ∧ p.counters = s.ports[n].counters ∧ p.state = .listen ∧
        p.format = none ∧ p.streams = none ∧ p.linkTimer = none ∧
        p.listenTimer = some s.ports[n].config.interval ∧ p.period = some 8 ∧
        (∀ k : Fin 4, p.queues[k] = [] ∧ p.sequences[k] = none) ∧
        p.sent = some { formats := s.ports[n].config.permitted, streams := 4, ack := false }) ∧
    (r.kind = 0x31 → r.body = [octet n.val] → s.ports[n].state = .disabled →
      exec .portRenegotiate s = .next ((s.taken rest).replied r .wrongState []))

/-- R43, R199: the octets of an offer word with 1 to 4 streams, met with no item in progress on a port
that is not DISABLED, are taken as that word, with every bit of its fields; a DISABLED port ignores
them. -/
def Obligations.OfferWordIsTaken : Prop :=
  ∀ (s : State) (n : Fin 8) (w : OfferWord), s.powered = true → 1 ≤ w.streams → w.streams ≤ 4 →
    (s.ports[n].state ≠ .disabled → s.ports[n].line = [] →
      exec (.offerWordReceived n w.octets) s
        = .next (s.withPorts (s.ports.set n (s.ports[n].takeWord w))).choose) ∧
    (s.ports[n].state = .disabled → exec (.offerWordReceived n w.octets) s = .next s.choose)

/-- R43 to R48, R51: what a valid offer word does, by the port state. -/
def Obligations.OfferWordByPortState : Prop :=
  ∀ (p : Port) (w : OfferWord),
    (p.state = .listen → p.linkTimer = none →
      p.takeWord w =
        { p with
          state := .offering
          exchange := { previous := some w, matched := 1, acked := 0, closing := none }
          linkTimer := some 250 }) ∧
    (∀ v k, p.state = .offering → p.linkTimer = some k → p.exchange.previous = some v →
      (v.formats = w.formats ∧ v.streams = w.streams → p.exchange.matched + 1 < 3 →
        p.takeWord w =
          { p with
            exchange := { p.exchange with previous := some w, matched := p.exchange.matched + 1 }
            linkTimer := some 250 }) ∧
      (v.formats = w.formats ∧ v.streams = w.streams → 3 ≤ p.exchange.matched + 1 →
        p.takeWord w =
          { p with
            state := .acking
            exchange :=
              { p.exchange with previous := some w, matched := p.exchange.matched + 1, acked := 0 }
            linkTimer := some 250 }) ∧
      (v.formats ≠ w.formats ∨ v.streams ≠ w.streams →
        p.takeWord w =
          { p with
            exchange := { p.exchange with previous := some w, matched := 1 }
            linkTimer := some 250 })) ∧
    (∀ v k, p.state = .acking → p.linkTimer = some k → p.exchange.previous = some v →
      p.exchange.closing = none →
      (v.formats = w.formats ∧ v.streams = w.streams → w.ack = false →
        p.takeWord w =
          { p with exchange := { p.exchange with acked := 0 }, linkTimer := some 250 }) ∧
      (v.formats = w.formats ∧ v.streams = w.streams → w.ack = true → p.exchange.acked + 1 < 3 →
        p.takeWord w =
          { p with
            exchange := { p.exchange with acked := p.exchange.acked + 1 }, linkTimer := some 250 }) ∧
      (v.formats = w.formats ∧ v.streams = w.streams → w.ack = true → 3 ≤ p.exchange.acked + 1 →
        p.takeWord w =
          { p with
            exchange := { p.exchange with acked := p.exchange.acked + 1, closing := some 0 }
            listenTimer := none
            linkTimer := some 250 }) ∧
      (v.formats ≠ w.formats ∨ v.streams ≠ w.streams →
        p.takeWord w =
          { p with
            state := .offering
            exchange := { previous := some w, matched := 1, acked := 0, closing := none }
            linkTimer := some 250 })) ∧
    (∀ k, p.linkTimer = some k →
      (p.state = .noCommon ∨ (p.state = .acking ∧ p.exchange.closing.isSome = true)) →
      p.takeWord w = { p with linkTimer := some 250 }) ∧
    (p.state = .locked ∨ p.state = .sensed →
      p.takeWord w =
        { p with
          state := .offering
          format := none
          streams := none
          sequences := Vector.replicate 4 none
          queues := Vector.replicate 4 []
          exchange := { previous := some w, matched := 1, acked := 0, closing := none }
          candidate := none
          listenTimer := some p.config.interval
          linkTimer := some 250
          period := some 8
          sent := some { formats := p.config.permitted, streams := 4, ack := false } })

/-- R42, R47: at the end of its 8 ms period a port sends its word, with ack 1 in ACKING; with the sixth
closing word it resolves to LOCKED in the common format of highest rate, or to NO_COMMON. An expiry that
finds the period restarted, or stopped, does nothing. -/
def Obligations.OfferWordPeriodSendsAndResolves : Prop :=
  (∀ (s : State) (n : Fin 8), s.powered = true → s.ports[n].period ≠ some 0 →
    exec (.offerWordPeriod n) s = .next s.choose) ∧
  ∀ (s : State) (n : Fin 8) (p : Port), s.powered = true → p = s.ports[n] → p.period = some 0 →
    (p.exchange.closing = none →
      exec (.offerWordPeriod n) s = .next
        (s.withPorts (s.ports.set n
          { p with
            period := some 8
            sent := some
              { formats := p.config.permitted, streams := 4
                ack := decide (p.state = .acking) } })).choose) ∧
    (∀ k, p.exchange.closing = some k → k + 1 < 6 →
      exec (.offerWordPeriod n) s = .next
        (s.withPorts (s.ports.set n
          { p with
            period := some 8
            sent := some
              { formats := p.config.permitted, streams := 4, ack := decide (p.state = .acking) }
            exchange := { p.exchange with closing := some (k + 1) } })).choose) ∧
    (∀ w, p.state = .acking → p.exchange.closing = some 5 → p.exchange.previous = some w →
      (∀ f, inFormatSet (p.config.permitted &&& w.formats) f = true →
        (∀ g, inFormatSet (p.config.permitted &&& w.formats) g = true → g.number ≤ f.number) →
        ∃ q : Port, exec (.offerWordPeriod n) s = .next
            ((s.withPorts (s.ports.set n q)).raise .portLocked
              [octet n.val, octet f.number, octet w.streams, 1]).choose ∧
          q.state = .locked ∧ q.format = some f ∧ q.streams = some w.streams ∧ q.period = none ∧
          q.linkTimer = some 250 ∧ q.config = p.config ∧ q.counters = p.counters ∧
          q.queues = p.queues ∧ (∀ k : Fin 4, q.sequences[k] = none) ∧
          q.sent = some { formats := p.config.permitted, streams := 4, ack := true }) ∧
      (p.config.permitted &&& w.formats = 0 →
        ∃ q : Port, exec (.offerWordPeriod n) s = .next
            ((s.withPorts (s.ports.set n q)).raise .portNoCommon
              [octet n.val, 1, octet w.formats.toNat]).choose ∧
          q.state = .noCommon ∧ q.format = p.format ∧ q.period = some 8 ∧ q.linkTimer = some 250 ∧
          q.config = p.config ∧ q.counters = p.counters ∧ q.queues = p.queues))

/-- R49, R50, R52: the expiry of a port's listen timer at 0, which senses the candidate or returns to
LISTEN, and the expiry of its link timer at 0, which counts a link loss and returns to LISTEN; an expiry
that finds its timer restarted, or stopped, does nothing. That sensing clears the candidate is the model's
reading (log 16). -/
def Obligations.PortTimersExpire : Prop :=
  ∀ (s : State) (n : Fin 8) (p : Port), s.powered = true → p = s.ports[n] →
    (p.listenTimer ≠ some 0 → exec (.listenTimerExpiry n) s = .next s.choose) ∧
    (p.listenTimer = some 0 → p.state = .listen ∨ p.state = .offering ∨ p.state = .acking →
      (∀ f, p.config.sensing = true → p.candidate = some f →
        inFormatSet p.config.permitted f = true →
        ∃ q : Port, exec (.listenTimerExpiry n) s = .next
            ((s.withPorts (s.ports.set n q)).raise .portLocked
              [octet n.val, octet f.number, 4, 2]).choose ∧
          q.state = .sensed ∧ q.format = some f ∧ q.streams = some 4 ∧ q.linkTimer = some 250 ∧
          q.listenTimer = none ∧ q.candidate = none ∧ q.period = none ∧ q.config = p.config ∧
          q.counters = p.counters ∧ ∀ k : Fin 4, q.sequences[k] = none) ∧
      (∀ f, p.config.sensing = true → p.candidate = some f →
        inFormatSet p.config.permitted f = false →
        ∃ q : Port, exec (.listenTimerExpiry n) s = .next
            ((s.withPorts (s.ports.set n q)).raise .portNoCommon
              [octet n.val, 2, octet f.number]).choose ∧
          q.state = .noCommon ∧ q.linkTimer = some 250 ∧ q.listenTimer = none ∧
          q.period = p.period ∧ q.config = p.config ∧ q.counters = p.counters) ∧
      (p.config.sensing = false ∨ p.candidate = none →
        ∃ q : Port, exec (.listenTimerExpiry n) s = .next
            ((s.withPorts (s.ports.set n q)).raise .negotiationTimeout
              [octet n.val, p.state.code]).choose ∧
          q.state = .listen ∧ q.listenTimer = some p.config.interval ∧ q.linkTimer = none ∧
          q.candidate = none ∧ q.config = p.config ∧ q.counters = p.counters)) ∧
    (p.linkTimer ≠ some 0 → exec (.linkTimerExpiry n) s = .next s.choose) ∧
    (p.linkTimer = some 0 →
      ∃ q : Port, exec (.linkTimerExpiry n) s = .next
          ((s.withPorts (s.ports.set n q)).raise .portLost [octet n.val, p.state.code]).choose ∧
        q.state = .listen ∧ q.format = none ∧ q.streams = none ∧ q.linkTimer = none ∧
        q.listenTimer = some p.config.interval ∧ q.config = p.config ∧
        q.counters = { p.counters with linkLosses := satInc p.counters.linkLosses } ∧
        ∀ k : Fin 4, q.queues[k] = [] ∧ q.sequences[k] = none)

/-- R50, R53 to R56, R59, R199: the octets of a contribution frame, met with no item in progress. With a
correct check on a LOCKED or SENSED port of its format and with its stream, its payload goes to the back of
its stream's queue, the oldest of 4 frames discarded with an overrun, the sequence is tracked, and the
ancillary field is then handed on. Otherwise it is counted, or kept as the sense candidate, or ignored. -/
def Obligations.ContributionFramesByPortState : Prop :=
  ∀ (s : State) (n : Fin 8) (p : Port) (f : ContributionFrame), s.powered = true → p = s.ports[n] →
    p.line = [] → f.payload.length = 360 * f.format.number → f.ancillary.length ≤ 64 →
    (∀ (k : Fin 4) (c : Nat), p.state.carries = true → p.format = some f.format →
      p.streams = some c → k.val < c → f.stream = octet k.val →
      ∃ q : Port,
        exec (.contributionFrame n f.octets) s = .next
          (((if p.queues[k].length < 4 then s.withPorts (s.ports.set n q)
            else
              (s.withPorts (s.ports.set n q)).raise .streamOverrun
                [octet n.val, octet k.val])).handOn n k f.ancillary).choose ∧
        q.queues[k] =
          (if p.queues[k].length < 4 then p.queues[k] else p.queues[k].drop 1)
            ++ [{ payload := f.payload, format := f.format, sequence := f.sequence }] ∧
        (∀ j : Fin 4, j ≠ k → q.queues[j] = p.queues[j] ∧ q.sequences[j] = p.sequences[j]) ∧
        q.sequences[k] = some f.sequence ∧ q.linkTimer = p.linkTimer.map (fun _ => 250) ∧
        q.counters =
          { p.counters with
            overruns :=
              if p.queues[k].length < 4 then p.counters.overruns else satInc p.counters.overruns
            sequenceGaps :=
              match p.sequences[k] with
              | some x => if f.sequence = x + 1 then p.counters.sequenceGaps
                else satInc p.counters.sequenceGaps
              | none => p.counters.sequenceGaps } ∧
        q.state = p.state ∧ q.config = p.config ∧ q.format = p.format ∧ q.streams = p.streams ∧
        q.candidate = p.candidate ∧ q.line = []) ∧
    (∀ c, p.state.carries = true → p.streams = some c → c ≤ 4 →
      (p.format ≠ some f.format ∨ c ≤ f.stream.toNat) →
      exec (.contributionFrame n f.octets) s = .next
        (s.withPorts (s.ports.set n
          { p with
            linkTimer := p.linkTimer.map (fun _ => 250)
            counters :=
              { p.counters with formatMismatches := satInc p.counters.formatMismatches } })).choose) ∧
    (p.state = .listen ∨ p.state = .offering ∨ p.state = .acking →
      exec (.contributionFrame n f.octets) s = .next
        (s.withPorts (s.ports.set n
          { p with
            linkTimer := p.linkTimer.map (fun _ => 250)
            candidate := if p.listenTimer.isSome then some f.format else p.candidate })).choose) ∧
    (p.state = .noCommon →
      exec (.contributionFrame n f.octets) s = .next
        (s.withPorts (s.ports.set n
          { p with linkTimer := p.linkTimer.map (fun _ => 250) })).choose) ∧
    (p.state = .disabled → exec (.contributionFrame n f.octets) s = .next s.choose) ∧
    (∀ high low : Octet, p.state.carries = true →
      (check16 f.covered).toNat ≠ high.toNat * 256 + low.toNat →
      (∀ o ∈ f.covered ++ [high, low], o ≠ 0x5C ∧ o ≠ 0xC3) →
      exec (.contributionFrame n ([0xC3, 0x6A] ++ f.covered ++ [high, low])) s = .next
        (s.withPorts (s.ports.set n
          { p with
            counters := { p.counters with checkFailures := satInc p.counters.checkFailures } })).choose)

/-- R44: a valid offer word taken in LISTEN moves the port to OFFERING as its previous word, with match
count 1; the listen timer goes on, and the link timer starts. -/
def Obligations.ListenTakesTheFirstWord : Prop :=
  ∀ (s : State) (n : Fin 8) (w : OfferWord), s.powered = true → 1 ≤ w.streams → w.streams ≤ 4 →
    s.ports[n].state = .listen → s.ports[n].linkTimer = none → s.ports[n].line = [] →
    exec (.offerWordReceived n w.octets) s = .next
      (s.withPorts (s.ports.set n
        { s.ports[n] with
          state := .offering
          exchange := { previous := some w, matched := 1, acked := 0, closing := none }
          linkTimer := some 250 })).choose


/-! ### The output link and the assembler -/

/-- R66, R67, R71, R72: a pull that sends a frame. The first after READY sends the idle frame (in buffer A:
log 26); a later one that finds a COMPLETE buffer sends it as it was assembled. Either starts the next
assembly in the other buffer, with the next frame count, the eight slots of the directory unit's start,
and no cell placed. Each entry of the plan account is a run with the audio source of R74 and R178 and, if
an alert takes its service, the text held of that alert (R177). The events of the plan unit and then of
the directory unit are raised, and the lanes of a service that returns to OWN restart (R138, R176). -/
def Obligations.PullsSendAndStartTheNextFrame : Prop :=
  ∀ s : State, s.powered = true → s.control.phase = .ready →
    ∃ (t : State) (f : CarriageFrame) (p : Progress) (account : PlanAccount)
      (taker : Fin 32 → Option Alert) (events : Events),
      account = s.plan.start.2.1 ∧
      t.output.state = .running ∧ t.output.link = .sending ∧ t.output.stallTimer = some 360 ∧
      t.output.count = s.output.count + 1 ∧ t.output.repeats = s.output.repeats ∧
      t.output.stalls = s.output.stalls ∧ t.output.earlyPulls = s.output.earlyPulls ∧
      t.output.fitFaults = s.output.fitFaults ∧ t.plan = s.plan.start.1 ∧
      t.alerts = (s.alerts.start s.services account.onAir).1 ∧
      s.directory.start (s.output.count + 1) account s.services s.ports t.alerts.alerts
        = (t.directory, f.slots, events) ∧
      t.control = (s.raiseAll (s.plan.start.2.2 ++ events)).control ∧
      (∀ i k, t.lane i k =
        if account.onAir i = true ∧ s.alerts.takers[i] ≠ none ∧ t.alerts.takers[i] = none ∧
            (s.lane i k).phase ≠ .empty then
          { s.lane i k with cursor := 0, done := 0 }
        else s.lane i k) ∧
      t.services = s.services ∧ t.ports = s.ports ∧ t.cues = s.cues ∧ t.lines = s.lines ∧
      t.templates = s.templates ∧ t.store = s.store ∧ t.pending = s.pending ∧ t.powered = true ∧
      f.resent = false ∧ f.count = s.output.count + 1 ∧ f.plan = account.number ∧
      f.cells = [] ∧ f.slots.length = 8 ∧
      p.audioDone = false ∧ p.cellsDone = 0 ∧ p.answers = [] ∧
      (∀ i a, taker i = some a → a ∈ t.alerts.alerts) ∧
      (∀ i, account.onAir i = true → (taker i).map Alert.stamp = t.alerts.takers[i]) ∧
      p.runs = account.entries.map (fun e =>
        { service := e.service
          run := { start := e.start, length := e.length, share := e.share }
          source := s.services[e.service].bind fun v =>
            match v.kind, taker e.service with
            | .data, _ => none
            | .audio, none => v.binding
            | .audio, some a => if a.content.stream = none then v.binding else a.content.stream
          taken := (taker e.service).map fun a => { number := a.number, text := a.content.text } }) ∧
      (s.output.state = .waiting →
        exec .framePull s = .next t.choose ∧ t.output.bufferB = .assembling f p ∧
        t.output.bufferA = .lastSent
          { resent := true, count := 0, plan := s.plan.number
            slots :=
              .frame { count := 0, plan := s.plan.number, countdown := 0, levels := 0, regions := 0 }
                :: List.replicate 7 .empty
            cells := [] }) ∧
      (∀ g, s.output.state ≠ .waiting → s.output.link = .idle → s.output.bufferA = .complete g →
        exec .framePull s = .next t.choose ∧ t.output.bufferA = .lastSent g ∧
        t.output.bufferB = .assembling f p) ∧
      (∀ g h, s.output.state ≠ .waiting → s.output.link = .idle → s.output.bufferA = .lastSent h →
        s.output.bufferB = .complete g →
        ∃ u : State, exec .framePull s = .next u.choose ∧ u.output.bufferB = .lastSent g ∧
          u.output.bufferA = .assembling f p ∧
          u = t.withOutput { t.output with bufferA := .assembling f p, bufferB := .lastSent g })

/-- R68 to R71: a pull that finds the assembly unfinished repeats the LAST SENT frame and raises
FRAME_LATE; a pull during a transmission is discarded and counted; one taken while STARTING does nothing;
the end of a transmission frees the link; 360 ms without a pull is a stall, and an expiry that finds the
stall timer restarted, or stopped, does nothing. -/
def Obligations.LateAndEarlyPullsAndStalls : Prop :=
  ∀ s : State, s.powered = true →
    (∀ f g p, s.control.phase = .ready → s.output.state ≠ .waiting → s.output.link = .idle →
      s.output.bufferA = .lastSent f → s.output.bufferB = .assembling g p →
      exec .framePull s = .next
        ((s.withOutput
          { s.output with
            state := .running, bufferA := .lastSent { f with resent := true }, link := .sending
            stallTimer := some 360, repeats := satInc s.output.repeats }).raise .frameLate
          (be16 f.count.toNat)).choose) ∧
    (∀ f g p, s.control.phase = .ready → s.output.state ≠ .waiting → s.output.link = .idle →
      s.output.bufferB = .lastSent f → s.output.bufferA = .assembling g p →
      exec .framePull s = .next
        ((s.withOutput
          { s.output with
            state := .running, bufferB := .lastSent { f with resent := true }, link := .sending
            stallTimer := some 360, repeats := satInc s.output.repeats }).raise .frameLate
          (be16 f.count.toNat)).choose) ∧
    (s.control.phase = .ready → s.output.state ≠ .waiting → s.output.link = .sending →
      exec .framePull s = .next
        (s.withOutput { s.output with earlyPulls := satInc s.output.earlyPulls }).choose) ∧
    (s.control.phase = .starting → exec .framePull s = .next s.choose) ∧
    exec .outputTransmissionEnd s = .next (s.withOutput { s.output with link := .idle }).choose ∧
    (s.output.stallTimer ≠ some 0 → exec .stallTimerExpiry s = .next s.choose) ∧
    (s.output.stallTimer = some 0 →
      exec .stallTimerExpiry s = .next
        ((s.withOutput
          { s.output with
            state := .stalled, stallTimer := none, stalls := satInc s.output.stalls }).raise
          .outputStalled (be16 s.output.count.toNat)).choose)

/-- R57, R74 to R76: the take of a stream whose answer this assembly does not have yet, for the run
reached. A frame that fits is placed in the first cells of the audio portion; one that does not is counted
and raised; an empty queue is an underrun. The answer is kept for the rest of the assembly, and serves
every later run of the same stream without a take. What needs no take and no request is passed within the
event that reaches it, which is the model's choice (log 21), and so is it that an assembly in progress at a
stall takes while the output is STALLED (log 33). -/
def Obligations.StreamTakePlacesTheAudio : Prop :=
  (∀ (s : State) (f : CarriageFrame) (p : Progress) (q : FrameRun) (more : List FrameRun) (x : Stream),
     s.powered = true → s.output.work = some (f, p) → p.runs = q :: more → p.audioDone = false →
     q.source = some x → (∀ y ∈ p.answers, y.1 ≠ x) →
     (∀ y ys, s.ports[x.port].queues[x.number] = y :: ys →
       10 * y.format.number ≤ q.run.length - q.run.share →
       exec .streamTake s = .next
         ((s.withPorts (s.ports.set x.port
             { s.ports[x.port] with queues := s.ports[x.port].queues.set x.number ys })).withOutput
           (s.output.setWork (.assembling
             { f with
               cells := f.cells ++ (List.range (10 * y.format.number)).map fun i =>
                 (q.run.start + i, .audio (span y.payload (36 * i) 36)) }
             { p with audioDone := true, answers := p.answers ++ [(x, some y)] }))).choose) ∧
     (∀ y ys, s.ports[x.port].queues[x.number] = y :: ys →
       q.run.length - q.run.share < 10 * y.format.number →
       exec .streamTake s = .next
         (((s.withPorts (s.ports.set x.port
             { s.ports[x.port] with queues := s.ports[x.port].queues.set x.number ys })).withOutput
           { s.output.setWork (.assembling f
               { p with audioDone := true, answers := p.answers ++ [(x, some y)] }) with
             fitFaults := s.output.fitFaults.set q.service (satInc s.output.fitFaults[q.service]) }).raise
           .fitFault
           ([octet q.service.val, octet y.format.number]
             ++ be16 (q.run.length - q.run.share))).choose) ∧
     (s.ports[x.port].queues[x.number] = [] →
       exec .streamTake s = .next
         (((s.withPorts (s.ports.set x.port
             { s.ports[x.port] with
               counters :=
                 { s.ports[x.port].counters with
                   underruns := satInc s.ports[x.port].counters.underruns } })).withOutput
           (s.output.setWork (.assembling f
             { p with audioDone := true, answers := p.answers ++ [(x, none)] }))).raise
           .streamUnderrun [octet x.port.val, octet x.number.val]).choose)) ∧
  (∀ (s : State) (f : CarriageFrame) (p : Progress), s.output.work = some (f, p) →
    ∃ a : Assembly, s.reached = some a ∧ a.Waits ∧
      Assembly.Passes { frame := f, progress := p, faults := s.output.fitFaults, events := [] } a ∧
      (s.passed a).output.work = some (a.frame, a.progress)) ∧
  (∀ (s : State) (a : Assembly) (q : FrameRun) (more : List FrameRun), s.powered = true →
    s.reached = some a → a.progress.runs = q :: more → a.progress.audioDone = false →
    exec .streamTake s = exec .streamTake (s.passed a))

/-- R73, R77, R78, R179, R180: the data-share cell reached of an OWN run is what the carousel answers, that
of a taken run the alert text at the service's cursor (one header cell for an empty text), and fill when
the answer is none; with every run placed the frame is COMPLETE. What is passed on the way to the cell
reached, or to the end, is passed within the same event (log 21), as StreamTakePlacesTheAudio says. -/
def Obligations.DataShareIsFilledAndCompletes : Prop :=
  (∀ (s : State) (f : CarriageFrame) (p : Progress), s.powered = true →
     s.output.work = some (f, p) →
     (∀ (q : FrameRun) (more : List FrameRun), p.runs = q :: more → p.audioDone = true →
       p.cellsDone < q.run.share →
       (q.taken = none →
         ∃ (t : State) (cell : Option Cell),
           s.carouselCell q.service (decide (p.cellsDone = 0)) = (t, cell) ∧
           exec .cellRequest s = .next
             (t.withOutput (s.output.setWork (.assembling
               { f with
                 cells := f.cells ++ (cell.map fun c =>
                   (q.run.start + (q.run.length - q.run.share) + p.cellsDone, c)).toList }
               { p with cellsDone := p.cellsDone + 1 }))).choose) ∧
       (∀ (h : TextHold) (c : Fin 8), q.taken = some h → c = s.alerts.cursors[q.service] → h.text ≠ [] →
         exec .alertCellRequest s = .next
           ((s.withAlerts
             { s.alerts with
               cursors := s.alerts.cursors.set q.service
                 (if c.val + 1 < (h.text.length + 31) / 32 then c + 1 else 0) }).withOutput
             (s.output.setWork (.assembling
               { f with
                 cells := f.cells ++
                   [(q.run.start + (q.run.length - q.run.share) + p.cellsDone,
                     .data
                       { number := h.number, kind := .alert, first := decide (c.val = 0)
                         last := decide ((h.text.length + 31) / 32 ≤ c.val + 1), abandon := false
                         index := c.val }
                       (padTo 32 (h.text.drop (32 * c.val))))] }
               { p with cellsDone := p.cellsDone + 1 }))).choose) ∧
       (∀ h : TextHold, q.taken = some h → h.text = [] →
         exec .alertCellRequest s = .next
           (s.withOutput
             (s.output.setWork (.assembling
               { f with
                 cells := f.cells ++
                   if p.cellsDone = 0 then
                     [(q.run.start + (q.run.length - q.run.share),
                       .data
                         { number := h.number, kind := .alert, first := true, last := true
                           abandon := false, index := 0 }
                         (List.replicate 32 0))]
                   else [] }
               { p with cellsDone := p.cellsDone + 1 }))).choose)) ∧
     ((p.runs = [] ∨ ∃ q, p.runs = [q] ∧ p.audioDone = true ∧ p.cellsDone = q.run.share) →
       exec .frameAssemblyComplete s = .next
         (s.withOutput (s.output.setWork (.complete f))).choose)) ∧
  (∀ (s : State) (a : Assembly), s.powered = true → s.reached = some a →
    (∀ (q : FrameRun) (more : List FrameRun), a.progress.runs = q :: more →
      a.progress.audioDone = true →
      (q.taken = none → exec .cellRequest s = exec .cellRequest (s.passed a)) ∧
      (q.taken ≠ none → exec .alertCellRequest s = exec .alertCellRequest (s.passed a))) ∧
    (a.progress.runs = [] →
      exec .frameAssemblyComplete s = exec .frameAssemblyComplete (s.passed a)))

/-! ### Carousels -/

/-- R130: the lane that answers a cell request. The TEXT lane is asked first at the first cell of a run
while it is RUNNING, the PICTURE lane otherwise; then the other; and none answers fill. -/
def Obligations.CellRequestsChooseTheLane : Prop :=
  ∀ (s : State) (i : Fin 32) (first : Bool) (k : ObjectKind) (able : ObjectKind → Prop),
    (k = if first = true ∧ (s.lane i .text).phase = .running then .text else .picture) →
    (∀ j, able j ↔ (s.lane i j).phase = .running ∧
      ((s.lane i j).owed ≠ none ∨
        (((0 < (s.lane i j).cursor ∨ 0 < (s.lane i j).done) ∧
          ∃ e, (s.lane i j).currentEntry = some e ∧ ∃ x, s.store.objects[e.object] = some x ∧
            x.state = .faulted) ∨
        ∃ e ∈ (s.lane i j).entries, ∃ x, s.store.objects[e.object] = some x ∧ x.state = .ready))) →
    (able k → ∃ a, a = (s.lane i k).answerCell i k s.store ∧
      s.carouselCell i first
        = ((((s.setLane i k a.lane).withStore a.store).raiseAll a.events), a.cell)) ∧
    (∀ j, j ≠ k → ¬ able k → able j → ∃ a, a = (s.lane i j).answerCell i j s.store ∧
      s.carouselCell i first
        = ((((s.setLane i j a.lane).withStore a.store).raiseAll a.events), a.cell)) ∧
    ((∀ j, ¬ able j) → s.carouselCell i first = (s, none))

/-- R131 to R134: with no bit of the store changed, a lane that owes nothing and whose current entry's
object is READY supplies the fragment at its cursor, and then goes on to the next fragment, the next
carriage, or, at the end of the visit, the next entry, as ONCE, NOTIFY and HOLD ask. An owed ABANDON goes
first, a FAULTED object met mid-way is abandoned, and entries that name FAULTED objects are skipped. A
fetch that ends in FAULT sends ABANDON, faults the object and leaves the visit. -/
def Obligations.LanesSupplyFragments : Prop :=
  ∀ (l : Lane) (i : Fin 32) (k : ObjectKind) (st : ObjectStore) (e : CarouselEntry) (x : StoredObject),
    l.phase = .running → l.currentEntry = some e → st.objects[e.object] = some x →
    (∀ a, l.owed = some a →
      l.answerCell i k st =
        { lane := { l with owed := none }, store := st
          cell := some (.data
            { number := octet a.object, kind := k.cellKind, first := false, last := false
              abandon := true, index := a.index } (List.replicate 32 0))
          events := [] }) ∧
    (l.owed = none → x.state = .faulted → 0 < l.cursor ∨ 0 < l.done →
      l.answerCell i k st =
        { lane := { l with current := nextEntry l.entries e.id, cursor := 0, done := 0 }, store := st
          cell := some (.data
            { number := octet (e.object.val + 1), kind := k.cellKind, first := false, last := false
              abandon := true, index := l.cursor } (List.replicate 32 0))
          events := [] }) ∧
    (∀ (n : Nat) (cell : Cell), l.owed = none → x.state = .ready → st.differing = [] →
      n = (x.declared + 31) / 32 →
      cell = .data
        { number := octet (e.object.val + 1), kind := k.cellKind, first := decide (l.cursor = 0)
          last := decide (n ≤ l.cursor + 1), abandon := false, index := l.cursor }
        (padTo 32 ((st.stands (groupKey x.pages (2 * l.cursor))
          ++ st.stands (groupKey x.pages (2 * l.cursor + 1))).take (x.declared - 32 * l.cursor))) →
      (l.cursor + 1 < n →
        l.answerCell i k st =
          { lane := { l with cursor := l.cursor + 1 }, store := st, cell := some cell, events := [] }) ∧
      (l.cursor + 1 = n → l.done + 1 < e.repeats →
        l.answerCell i k st =
          { lane := { l with cursor := 0, done := l.done + 1 }, store := st, cell := some cell
            events := [] }) ∧
      (l.cursor + 1 = n → e.repeats ≤ l.done + 1 → e.once = false →
        l.answerCell i k st =
          { lane :=
              { l with
                phase := if e.hold then .held else .running
                current := nextEntry l.entries e.id, cursor := 0, done := 0 }
            store := st, cell := some cell
            events :=
              (if e.notify then
                [(.carouselNotify,
                  [octet i.val, k.laneCode, octet e.id.val, octet (e.object.val + 1)])] else []) ++
              (if e.hold then
                [(.carouselHeld,
                  [octet i.val, k.laneCode, octet e.id.val,
                    match nextEntry l.entries e.id with | some id => octet id.val | none => 0])]
              else []) }) ∧
      (l.cursor + 1 = n → e.repeats ≤ l.done + 1 → e.once = true → l.entries = [e] →
        l.answerCell i k st =
          { lane := Lane.initial
            store := st.setObject e.object (some { x with references := x.references - 1 })
            cell := some cell
            events :=
              if e.notify then
                [(.carouselNotify,
                  [octet i.val, k.laneCode, octet e.id.val, octet (e.object.val + 1)])]
              else [] }) ∧
      (∀ (pre post later : List CarouselEntry) (f : CarouselEntry), l.cursor + 1 = n →
        e.repeats ≤ l.done + 1 → e.once = true → l.entries = pre ++ e :: post → post ++ pre = f :: later →
        (l.entries.map CarouselEntry.id).Nodup →
        l.answerCell i k st =
          { lane :=
              { l with
                phase := if e.hold then .held else .running
                entries := pre ++ post, current := some f.id, cursor := 0, done := 0 }
            store := st.setObject e.object (some { x with references := x.references - 1 })
            cell := some cell
            events :=
              (if e.notify then
                [(.carouselNotify,
                  [octet i.val, k.laneCode, octet e.id.val, octet (e.object.val + 1)])] else []) ++
              (if e.hold then
                [(.carouselHeld, [octet i.val, k.laneCode, octet e.id.val, octet f.id.val])]
              else []) })) ∧
    (∀ (pre post skipped later : List CarouselEntry) (f : CarouselEntry), l.owed = none →
      l.cursor = 0 → l.done = 0 → (l.entries.map CarouselEntry.id).Nodup → l.entries = pre ++ e :: post →
      e :: post ++ pre = skipped ++ f :: later → skipped ≠ [] →
      (∀ g ∈ skipped, ∃ y, st.objects[g.object] = some y ∧ y.state = .faulted) →
      (∃ y, st.objects[f.object] = some y ∧ y.state = .ready) →
      l.answerCell i k st =
        { l with current := some f.id, cursor := 0, done := 0 : Lane }.answerCell i k st) ∧
    (l.owed = none → x.state = .ready →
      (∀ r : GroupRead, r = st.fetchFragment e.object l.cursor → r.bad = true →
        l.answerCell i k st =
          { lane := { l with current := nextEntry l.entries e.id, cursor := 0, done := 0 }
            store := r.store
            cell := some (.data
              { number := octet (e.object.val + 1), kind := k.cellKind, first := false, last := false
                abandon := true, index := l.cursor } (List.replicate 32 0))
            events := r.events }) ∧
      (∀ (key b c : Nat), key = groupKey x.pages (2 * l.cursor) → st.differs key = [b, c] →
        (x.declared ≤ 16 * (2 * l.cursor + 1) ∨
          st.differs (groupKey x.pages (2 * l.cursor + 1)) = []) →
        (st.fetchFragment e.object l.cursor).bad = true ∧
        (st.fetchFragment e.object l.cursor).store =
          { st with
            objects := st.objects.set e.object (some { x with state := .faulted })
            uncorrectable := satInc st.uncorrectable
            uncorrectableCapture :=
              match st.uncorrectableCapture with
              | some d => some d
              | none => some { page := key / 32, group := key % 32, object := e.object.val + 1 } } ∧
        (st.fetchFragment e.object l.cursor).events =
          [(.objectFaulted, [octet (e.object.val + 1)] ++ be16 (key / 32) ++ [octet (key % 32)])]))

/-- R101, R111, R112: a group read for an object, by how many of its bits differ from what was written:
none, one of its octets (put right, written back, counted, captured if the capture is invalid, raised), or
two (counted and captured), which a fragment fetch answers by making a READY object FAULTED. A changed bit
of the check code (128 and up: log 12) leaves the octets as they stand. -/
def Obligations.GroupReadsByDamage : Prop :=
  ∀ (st : ObjectStore) (o : Fin 128) (key : Nat), Memory.wf st.memory = true →
    (st.differs key = [] →
      (st.readFor o key).store = st ∧ (st.readFor o key).octets = st.stands key ∧
      (st.readFor o key).bad = false ∧ (st.readFor o key).events = []) ∧
    (∀ b, st.differs key = [b] →
      ∃ u : ObjectStore, (st.readFor o key).store = u ∧ (st.readFor o key).bad = false ∧
        (b < 128 → (st.readFor o key).octets = (st.stands key).modify (b / 8) (fun v =>
          v ^^^ BitVec.ofNat 8 (2 ^ (b % 8)))) ∧
        (128 ≤ b → (st.readFor o key).octets = st.stands key) ∧
        u.stands key = (st.readFor o key).octets ∧ u.differs key = [] ∧
        u.corrected = satInc st.corrected ∧ u.uncorrectable = st.uncorrectable ∧
        u.correctedCapture =
          (match st.correctedCapture with
          | some c => some c
          | none => some { page := key / 32, group := key % 32, object := o.val + 1 }) ∧
        u.uncorrectableCapture = st.uncorrectableCapture ∧ u.objects = st.objects ∧
        u.free = st.free ∧
        (∀ a, a / 16 ≠ key → Memory.read u.memory a = Memory.read st.memory a) ∧
        (∀ g, g ≠ key → u.differs g = st.differs g) ∧
        (st.readFor o key).events =
          [(.storeCorrected, [octet (o.val + 1)] ++ be16 (key / 32) ++ [octet (key % 32)])]) ∧
    (∀ b c, st.differs key = [b, c] →
      ∃ u : ObjectStore,
        u = { st with
          uncorrectable := satInc st.uncorrectable
          uncorrectableCapture :=
            match st.uncorrectableCapture with
            | some d => some d
            | none => some { page := key / 32, group := key % 32, object := o.val + 1 } } ∧
        (st.readFor o key).store = u ∧ (st.readFor o key).bad = true ∧
        (st.readFor o key).events = [] ∧
        (∀ x, st.objects[o] = some x → x.state = .ready →
          (st.fetchGroup o key).store = u.setObject o (some { x with state := .faulted }) ∧
          (st.fetchGroup o key).bad = true ∧
          (st.fetchGroup o key).events =
            [(.objectFaulted, [octet (o.val + 1)] ++ be16 (key / 32) ++ [octet (key % 32)])]))

/-- R123, R124, R128: CAR_ADD of a READY object takes the lowest free entry and one reference, and places
the entry at the end or directly before the entry named; an EMPTY lane becomes RUNNING with it current.
CAR_RESUME makes a HELD lane RUNNING. -/
def Obligations.CarAddAndResume : Prop :=
  ∀ (s : State) (r : Request) (rest : List Request), Taking s r rest → LaneLaw s →
    (∀ (i : Fin 32) (o : Fin 128) (x : StoredObject) (repeats : Nat) (hold notify once : Bool)
      (position before : Octet) (id : Fin 256) (pre post : List CarouselEntry),
      r.kind = 0x50 →
      r.body = [octet i.val, octet (o.val + 1), octet repeats,
        (if hold then 1 else 0) + (if notify then 2 else 0) + (if once then 4 else 0),
        position, before] →
      1 ≤ repeats → repeats ≤ 15 → s.services[i] ≠ none → s.store.objects[o] = some x →
      x.state = .ready →
      (∀ f ∈ entriesInUse s.carousels, f.id ≠ id) →
      (∀ j : Fin 256, j < id → ∃ f ∈ entriesInUse s.carousels, f.id = j) →
      (s.lane i x.kind).entries = pre ++ post →
      (position = 0 ∧ post = [] ∨
        position = 1 ∧ ∃ f later, post = f :: later ∧ octet f.id.val = before) →
      ∃ (l : Lane) (e : CarouselEntry),
        exec .carAdd s = .next
          ((((s.taken rest).setLane i x.kind l).withStore
            (s.store.setObject o (some { x with references := x.references + 1 }))).replied r .done
            [octet id.val, if x.kind = .text then 1 else 2]) ∧
        e = { id := id, object := o, repeats := repeats, hold := hold, notify := notify, once := once } ∧
        l.entries = pre ++ e :: post ∧
        (if (s.lane i x.kind).phase = .empty then
          l = { phase := .running, entries := [e], current := some id, cursor := 0, done := 0
                owed := none }
        else l = { s.lane i x.kind with entries := pre ++ e :: post })) ∧
    (∀ (i : Fin 32) (k : ObjectKind), r.kind = 0x53 →
      r.body = [octet i.val, if k = .text then 1 else 2] →
      ((s.lane i k).phase = .held →
        exec .carResume s = .next
          (((s.taken rest).setLane i k { s.lane i k with phase := .running }).replied r .done [])) ∧
      ((s.lane i k).phase ≠ .held →
        exec .carResume s = .next ((s.taken rest).replied r .notHeld [])))

/-- R122, R125, R126, R129: CAR_REMOVE closes up the list, moves on from a current entry (with an ABANDON
owed when its visit was mid-way) and releases one reference; CAR_CLEAR leaves the lane EMPTY; CAR_READ
gives the lane as it stands. -/
def Obligations.CarRemoveClearRead : Prop :=
  ∀ (s : State) (r : Request) (rest : List Request) (i : Fin 32) (k : ObjectKind) (l : Lane),
    Taking s r rest → LaneLaw s → ReferenceLaw s → l = s.lane i k →
    (∀ (pre post : List CarouselEntry) (e : CarouselEntry) (x : StoredObject), r.kind = 0x51 →
      r.body = [octet e.id.val] → l.entries = pre ++ e :: post → s.store.objects[e.object] = some x →
      ∃ m : Lane,
        exec .carRemove s = .next
          ((((s.taken rest).setLane i k m).withStore
            (s.store.setObject e.object (some { x with references := x.references - 1 }))).replied r
            .done [if m.owed = none then 0 else 1]) ∧
        (pre ++ post = [] → m = Lane.initial) ∧
        (∀ f later, post ++ pre = f :: later →
          m = if l.current = some e.id then
              { l with
                entries := pre ++ post, current := some f.id, cursor := 0, done := 0
                owed :=
                  if 0 < l.cursor ∨ 0 < l.done then
                    some { object := e.object.val + 1, index := l.cursor }
                  else l.owed }
            else { l with entries := pre ++ post })) ∧
    (r.kind = 0x52 → r.body = [octet i.val, if k = .text then 1 else 2] → s.services[i] ≠ none →
      ∃ t : State, exec .carClear s = .next (t.replied r .done (be16 l.entries.length)) ∧
        t.control = (s.taken rest).control ∧ t.lane i k = Lane.initial ∧
        (∀ j m, (j, m) ≠ (i, k) → t.lane j m = s.lane j m) ∧
        (∀ o : Fin 128, t.store.objects[o] = s.store.objects[o].map fun x =>
          { x with references := x.references - l.entries.countP fun e => decide (e.object = o) }) ∧
        t.store.memory = s.store.memory ∧ t.store.free = s.store.free ∧ t.services = s.services ∧
        t.plan = s.plan ∧ t.ports = s.ports ∧ t.cues = s.cues ∧ t.lines = s.lines ∧
        t.templates = s.templates ∧ t.alerts = s.alerts ∧ t.directory = s.directory ∧
        t.output = s.output ∧ t.pending = s.pending) ∧
    (r.kind = 0x54 → r.body = [octet i.val, if k = .text then 1 else 2] →
      exec .carRead s = .next ((s.taken rest).replied r .done
        ([octet i.val, if k = .text then 1 else 2,
            match l.phase with | .empty => 0 | .running => 1 | .held => 2]
          ++ be16 l.entries.length
          ++ [match l.current with | none => 0 | some id => octet id.val]
          ++ be16 l.cursor ++ [octet l.done, flagOctet l.owed.isSome]
          ++ be16 (256 - (entriesInUse s.carousels).length)
          ++ l.entries.flatMap fun e =>
            [octet e.id.val, octet (e.object.val + 1), octet e.repeats,
              (if e.hold then 1 else 0) + (if e.notify then 2 else 0)
                + (if e.once then 4 else 0)])))

/-! ### The object store -/

/-- R102 to R104: OBJ_OPEN takes the lowest FREE object and the lowest free pages, and writes every octet of
them with 0x00; every other octet, object, counter and capture stays. -/
def Obligations.ObjectOpenTakesAndClearsPages : Prop :=
  ∀ (s : State) (r : Request) (rest : List Request) (kind : ObjectKind) (length n : Nat) (o : Fin 128),
    Taking s r rest → r.kind = 0x40 →
    r.body = (if kind = .text then 1 else 2) :: be16 length → 1 ≤ length →
    length ≤ (if kind = .text then 160 else 49152) → n = (length + 511) / 512 →
    s.store.objects[o] = none → (∀ j : Fin 128, j < o → s.store.objects[j] ≠ none) →
    (n ≤ s.store.free.length →
      ∃ st : ObjectStore,
        exec .objOpen s = .next (((s.taken rest).withStore st).replied r .done
          [octet (o.val + 1), octet n]) ∧
        st.objects = s.store.objects.set o
          (some { state := .loading, kind := kind, declared := length, loaded := 0, tail := []
                  pages := s.store.free.take n, references := 0 }) ∧
        st.free = s.store.free.drop n ∧
        (∀ a, Memory.read st.memory a
          = if a / 512 ∈ s.store.free.take n then 0 else Memory.read s.store.memory a) ∧
        (∀ d, d ∈ st.differing ↔ d ∈ s.store.differing ∧ d.1 / 32 ∉ s.store.free.take n) ∧
        st.corrected = s.store.corrected ∧ st.uncorrectable = s.store.uncorrectable ∧
        st.correctedCapture = s.store.correctedCapture ∧
        st.uncorrectableCapture = s.store.uncorrectableCapture) ∧
    (s.store.free.length < n → exec .objOpen s = .next ((s.taken rest).replied r .storeFull []))

/-- R105 to R107: OBJ_LOAD at the loaded length writes each group that the tail and the data complete, and
keeps the rest as the tail; OBJ_CLOSE of an object loaded whole writes the tail with 0x00 behind it and
makes the object READY. No other octet of the memory changes, and a group written differs in no bit. -/
def Obligations.ObjectLoadAndClose : Prop :=
  ∀ (s : State) (r : Request) (rest : List Request) (o : Fin 128) (x : StoredObject), Taking s r rest →
    MemoryLaw s → PageLaw s → ObjectLaw s → s.store.objects[o] = some x → x.state = .loading →
    (∀ (data : Octets), r.kind = 0x41 → r.body = octet (o.val + 1) :: be16 x.loaded ++ data →
      1 ≤ data.length → data.length ≤ 1024 → x.loaded + data.length ≤ x.declared →
      ∃ st : ObjectStore,
        exec .objLoad s = .next (((s.taken rest).withStore st).replied r .done
          (be16 (x.loaded + data.length))) ∧
        st.objects = s.store.objects.set o
          (some { x with
            loaded := x.loaded + data.length
            tail := (x.tail ++ data).drop (16 * ((x.tail ++ data).length / 16)) }) ∧
        (∀ g j, x.loaded / 16 ≤ g → g < (x.loaded + data.length) / 16 → j < 16 →
          Memory.read st.memory (16 * groupKey x.pages g + j)
            = (x.tail ++ data).getD (16 * (g - x.loaded / 16) + j) 0) ∧
        (∀ a, (∀ g, x.loaded / 16 ≤ g → g < (x.loaded + data.length) / 16 →
            a / 16 ≠ groupKey x.pages g) →
          Memory.read st.memory a = Memory.read s.store.memory a) ∧
        (∀ d, d ∈ st.differing ↔ d ∈ s.store.differing ∧
          ∀ g, x.loaded / 16 ≤ g → g < (x.loaded + data.length) / 16 → d.1 ≠ groupKey x.pages g) ∧
        st.free = s.store.free ∧ st.corrected = s.store.corrected ∧
        st.uncorrectable = s.store.uncorrectable ∧
        st.correctedCapture = s.store.correctedCapture ∧
        st.uncorrectableCapture = s.store.uncorrectableCapture) ∧
    (r.kind = 0x42 → r.body = [octet (o.val + 1)] →
      (x.loaded < x.declared → exec .objClose s = .next ((s.taken rest).replied r .short [])) ∧
      (x.loaded = x.declared →
        ∃ st : ObjectStore,
          exec .objClose s = .next (((s.taken rest).withStore st).replied r .done []) ∧
          st.objects = s.store.objects.set o (some { x with state := .ready, tail := [] }) ∧
          (∀ j, x.tail ≠ [] → j < 16 →
            Memory.read st.memory (16 * groupKey x.pages (x.loaded / 16) + j) = x.tail.getD j 0) ∧
          (∀ a, (x.tail = [] ∨ a / 16 ≠ groupKey x.pages (x.loaded / 16)) →
            Memory.read st.memory a = Memory.read s.store.memory a) ∧
          (∀ d, d ∈ st.differing ↔ d ∈ s.store.differing ∧
            (x.tail = [] ∨ d.1 ≠ groupKey x.pages (x.loaded / 16))) ∧
          st.free = s.store.free ∧ st.corrected = s.store.corrected ∧
          st.uncorrectable = s.store.uncorrectable ∧
          st.correctedCapture = s.store.correctedCapture ∧
          st.uncorrectableCapture = s.store.uncorrectableCapture))

/-- R108, R109, R127: OBJ_DROP. With references and no force it is refused IN_USE; otherwise the object
becomes FREE and its pages return to the pool, the memory as it stands, and under force every entry that
names it leaves its lane: a lane of no other entry becomes EMPTY with nothing owed, and in any other the
first entry left after a current one that was removed becomes current, with an ABANDON owed when the visit
was mid-way. -/
def Obligations.ObjectDropFreesThePages : Prop :=
  ∀ (s : State) (r : Request) (rest : List Request) (o : Fin 128) (x : StoredObject) (force : Bool),
    Taking s r rest → LaneLaw s → PageLaw s → ReferenceLaw s → r.kind = 0x43 →
    r.body = [octet (o.val + 1), flagOctet force] → s.store.objects[o] = some x →
    (0 < x.references → force = false → exec .objDrop s = .next ((s.taken rest).replied r .inUse [])) ∧
    (x.references = 0 ∨ force = true →
      ∃ t : State, exec .objDrop s = .next (t.replied r .done (be16 x.references)) ∧
        t.store.objects[o] = none ∧ t.store.free.Perm (x.pages ++ s.store.free) ∧
        t.store.free.Pairwise (· < ·) ∧ t.store.memory = s.store.memory ∧
        t.store.differing = s.store.differing ∧
        (∀ j : Fin 128, j ≠ o → t.store.objects[j] = s.store.objects[j]) ∧
        (∀ i k, (t.lane i k).entries
          = (s.lane i k).entries.filter fun e => decide (e.object ≠ o)) ∧
        (∀ i k l, l = s.lane i k →
          ((∀ e ∈ l.entries, e.object ≠ o) → t.lane i k = l) ∧
          ((∀ e ∈ l.entries, e.object = o) → t.lane i k = Lane.initial) ∧
          (∀ c ∈ l.entries, l.current = some c.id → c.object ≠ o →
            t.lane i k =
              { l with entries := l.entries.filter fun e => decide (e.object ≠ o) }) ∧
          (∀ (pre post later : List CarouselEntry) (c f : CarouselEntry), l.entries = pre ++ c :: post →
            l.current = some c.id → c.object = o →
            (post ++ pre).filter (fun e => decide (e.object ≠ o)) = f :: later →
            t.lane i k =
              { l with
                entries := l.entries.filter fun e => decide (e.object ≠ o)
                current := some f.id, cursor := 0, done := 0
                owed :=
                  if 0 < l.cursor ∨ 0 < l.done then some { object := o.val + 1, index := l.cursor }
                  else l.owed })) ∧
        t.store.corrected = s.store.corrected ∧ t.store.uncorrectable = s.store.uncorrectable ∧
        t.store.correctedCapture = s.store.correctedCapture ∧
        t.store.uncorrectableCapture = s.store.uncorrectableCapture ∧
        t.control = (s.taken rest).control ∧ t.services = s.services ∧ t.plan = s.plan ∧
        t.ports = s.ports ∧ t.cues = s.cues ∧ t.lines = s.lines ∧ t.templates = s.templates ∧
        t.alerts = s.alerts ∧ t.directory = s.directory ∧ t.output = s.output ∧ t.pending = s.pending)

/-- R113, R114, R116: OBJ_READ of an object that is not LOADING, with no bit of the store changed, returns
the octets from the offset on, with wrap-around at the declared length; STORE_STATUS returns the counters
and captures. Neither changes anything. -/
def Obligations.ObjectReadAndStoreStatus : Prop :=
  ∀ (s : State) (r : Request) (rest : List Request), Taking s r rest →
    (∀ (o : Fin 128) (x : StoredObject) (offset count : Nat), r.kind = 0x44 →
      r.body = octet (o.val + 1) :: be16 offset ++ be16 count → s.store.objects[o] = some x →
      x.state ≠ .loading → offset < x.declared → offset < 65536 → 1 ≤ count → count ≤ 1024 →
      s.store.differing = [] →
      exec .objRead s = .next ((s.taken rest).replied r .done
        ([octet (o.val + 1), if x.state = .ready then 2 else 3, if x.kind = .text then 1 else 2]
          ++ be16 x.declared ++ be16 x.references ++ [0] ++ be16 offset ++ be16 count
          ++ (List.range count).map fun j =>
            Memory.read s.store.memory
              (16 * groupKey x.pages ((offset + j) % x.declared / 16)
                + (offset + j) % x.declared % 16)))) ∧
    (r.kind = 0x45 → r.body = [] →
      exec .storeStatus s = .next ((s.taken rest).replied r .done
        (be16 s.store.free.length
          ++ [octet (s.store.objects.toList.countP fun x => x.isSome),
              octet (s.store.objects.toList.countP fun x => x.any fun y => decide (y.state = .faulted)),
              octet s.store.corrected.toNat, octet s.store.uncorrectable.toNat]
          ++ (match s.store.correctedCapture with
            | none => [0, 0, 0, 0, 0]
            | some c => [1] ++ be16 c.page ++ [octet c.group, octet c.object])
          ++ (match s.store.uncorrectableCapture with
            | none => [0, 0, 0, 0, 0]
            | some c => [1] ++ be16 c.page ++ [octet c.group, octet c.object]))))

/-- R117: STORE_CLEAR sets both counters to 0, makes both captures invalid, and answers DONE; objects,
pages and contents are not changed. -/
def Obligations.StoreClear : Prop :=
  ∀ (s : State) (r : Request) (rest : List Request), Taking s r rest → r.kind = 0x46 → r.body = [] →
    exec .storeClear s = .next
      (((s.taken rest).withStore
        { s.store with
          corrected := 0, uncorrectable := 0, correctedCapture := none
          uncorrectableCapture := none }).replied r .done [])

/-- R101: a bit fault changes its bits of one group and nothing else; a bit changed back differs no more
(check codes as sets of differing bits: log 10, log 12). -/
def Obligations.BitFaultChangesItsBits : Prop :=
  ∀ (s : State) (page : Fin 1024) (group : Fin 32) (bits : List Nat), s.powered = true → bits.Nodup →
    MemoryLaw s → s.store.differing.Nodup →
    ∃ st : ObjectStore, exec (.bitFault page group bits) s = .next (s.withStore st).choose ∧
      (∀ j k, j < 16 → k < 8 →
        (Memory.read st.memory (16 * (32 * page.val + group.val) + j)).getLsbD k
          = ((Memory.read s.store.memory (16 * (32 * page.val + group.val) + j)).getLsbD k
            ^^ decide (8 * j + k ∈ bits))) ∧
      (∀ a, a / 16 ≠ 32 * page.val + group.val →
        Memory.read st.memory a = Memory.read s.store.memory a) ∧
      (∀ g b, (g, b) ∈ st.differing ↔
        if g = 32 * page.val + group.val ∧ b ∈ bits then (g, b) ∉ s.store.differing
        else (g, b) ∈ s.store.differing) ∧
      st.objects = s.store.objects ∧ st.free = s.store.free ∧ st.corrected = s.store.corrected ∧
      st.uncorrectable = s.store.uncorrectable ∧ st.correctedCapture = s.store.correctedCapture ∧
      st.uncorrectableCapture = s.store.uncorrectableCapture

/-! ### Templates -/

/-- R143, R144, R145, R149: with no lock and no operation in progress TPL_ERASE makes a slot ERASING and
its mirror entry BLANK, TPL_WRITE of a content within its ranges makes a BLANK slot WRITING; the ends of
the two operations when their timer stands at 0, a write's with the check computed and stored, and no end
before that; and the refusals LOCKED, BUSY and NOT_BLANK, in their order. -/
def Obligations.TemplateEraseAndWrite : Prop :=
  ∀ (s : State) (i : Fin 16),
    (∀ (r : Request) (rest : List Request), Taking s r rest → r.kind = 0x60 → r.body = [octet i.val] →
      (s.templates.slots[i].lock = .none → s.templates.operation = none →
        exec .tplErase s = .next
          (((s.taken rest).withTemplates
            { slots := s.templates.slots.set i { state := .erasing, lock := .none }
              operation := some { kind := .erase, slot := i, timer := 40 }
              mirror := s.templates.mirror.set i .blank }).replied r .accepted [])) ∧
      (s.templates.slots[i].lock ≠ .none →
        exec .tplErase s = .next ((s.taken rest).replied r .locked [])) ∧
      (s.templates.slots[i].lock = .none → s.templates.operation ≠ none →
        exec .tplErase s = .next ((s.taken rest).replied r .busy []))) ∧
    (∀ (r : Request) (rest : List Request) (c : AlertContent), Taking s r rest → r.kind = 0x61 →
      c.Valid 1 → r.body = octet i.val :: c.octets →
      (s.templates.slots[i] = { state := .blank, lock := .none } → s.templates.operation = none →
        exec .tplWrite s = .next
          (((s.taken rest).withTemplates
            { s.templates with
              slots := s.templates.slots.set i { state := .writing c, lock := .none }
              operation := some { kind := .write, slot := i, timer := 8 } }).replied r .accepted [])) ∧
      (s.templates.slots[i].lock ≠ .none →
        exec .tplWrite s = .next ((s.taken rest).replied r .locked [])) ∧
      (s.templates.slots[i].lock = .none → s.templates.operation ≠ none →
        exec .tplWrite s = .next ((s.taken rest).replied r .busy [])) ∧
      (s.templates.slots[i].lock = .none → s.templates.operation = none →
        s.templates.slots[i].state ≠ .blank →
        exec .tplWrite s = .next ((s.taken rest).replied r .notBlank []))) ∧
    (s.powered = true → (∀ o, s.templates.operation = some o → o.timer ≠ 0) →
      exec .eraseEnd s = .next s.choose ∧ exec .writeEnd s = .next s.choose) ∧
    (s.powered = true → s.templates.operation = some { kind := .erase, slot := i, timer := 0 } →
      exec .writeEnd s = .next s.choose ∧
      exec .eraseEnd s = .next
        ((s.withTemplates
          { s.templates with
            slots := s.templates.slots.set i { s.templates.slots[i] with state := .blank }
            operation := none }).raise .templateDone [octet i.val, 1, 0]).choose) ∧
    (∀ c (w : TemplateContent), s.powered = true →
      s.templates.operation = some { kind := .write, slot := i, timer := 0 } →
      s.templates.slots[i].state = .writing c → w.toAlertContent = c →
      w.check = Config.templateCheck c.octets →
      exec .eraseEnd s = .next s.choose ∧
      exec .writeEnd s = .next
        ((s.withTemplates
          { slots := s.templates.slots.set i { s.templates.slots[i] with state := .written w }
            operation := none
            mirror := s.templates.mirror.set i (.written w) }).raise .templateDone
          [octet i.val, 2, 3]).choose)

/-- R146, R148: TPL_LOCK sets HELD or FIXED, a FIXED slot staying FIXED, is refused BUSY for a slot under
operation and WRONG_STATE for FIXED on a slot that is not WRITTEN; TPL_READ shows the slot while no
operation is in progress. -/
def Obligations.TemplateLocksAndRead : Prop :=
  ∀ (s : State) (r : Request) (rest : List Request) (i : Fin 16) (slot : Slot), Taking s r rest →
    slot = s.templates.slots[i] →
    (r.kind = 0x62 → r.body = [octet i.val, 1] → slot.state.busy = false →
      exec .tplLock s = .next
        (((s.taken rest).withTemplates
          { s.templates with
            slots := s.templates.slots.set i
              { slot with lock := if slot.lock = .fixed then .fixed else .held } }).replied r .done
          [if slot.lock = .fixed then 2 else 1])) ∧
    (∀ c, r.kind = 0x62 → r.body = [octet i.val, 2] → slot.state = .written c →
      exec .tplLock s = .next
        (((s.taken rest).withTemplates
          { s.templates with
            slots := s.templates.slots.set i { slot with lock := .fixed } }).replied r .done [2])) ∧
    (∀ a : Octet, r.kind = 0x62 → r.body = [octet i.val, a] → a = 1 ∨ a = 2 →
      (slot.state = .erasing ∨ ∃ c, slot.state = .writing c) →
      exec .tplLock s = .next ((s.taken rest).replied r .busy [])) ∧
    (r.kind = 0x62 → r.body = [octet i.val, 2] → slot.state = .blank ∨ slot.state = .damaged →
      exec .tplLock s = .next ((s.taken rest).replied r .wrongState [])) ∧
    (r.kind = 0x64 → r.body = [octet i.val] → s.templates.operation ≠ none →
      exec .tplRead s = .next ((s.taken rest).replied r .busy [])) ∧
    (r.kind = 0x64 → r.body = [octet i.val] → s.templates.operation = none →
      (∀ c, slot.state = .written c →
        exec .tplRead s = .next ((s.taken rest).replied r .done
          ([octet i.val, 3, match slot.lock with | .none => 0 | .held => 1 | .fixed => 2]
            ++ c.octets))) ∧
      (slot.state = .blank ∨ slot.state = .damaged →
        exec .tplRead s = .next ((s.taken rest).replied r .done
          ([octet i.val, if slot.state = .blank then 0 else 4,
              match slot.lock with | .none => 0 | .held => 1 | .fixed => 2]
            ++ List.replicate 249 0))))

/-- R147: TPL_UNLOCK is refused RANGE for a slot above 15 and LOCKED for a FIXED slot, and otherwise makes
the slot's lock NONE. -/
def Obligations.TplUnlock : Prop :=
  ∀ (s : State) (r : Request) (rest : List Request) (o : Octet), Taking s r rest → r.kind = 0x63 →
    r.body = [o] →
    (15 < o.toNat → exec .tplUnlock s = .next ((s.taken rest).replied r .range [])) ∧
    (∀ i : Fin 16, o = octet i.val →
      (s.templates.slots[i].lock = .fixed →
        exec .tplUnlock s = .next ((s.taken rest).replied r .locked [])) ∧
      (s.templates.slots[i].lock ≠ .fixed →
        exec .tplUnlock s = .next
          (((s.taken rest).withTemplates
            { s.templates with
              slots := s.templates.slots.set i
                { s.templates.slots[i] with lock := .none } }).replied r .done [])))

/-! ### Trigger lines and cue filters -/

/-- R154, R159, R160, R163: TRIG_SET (with the becoming active of a HELD line found at its active level),
TRIG_READ, CUE_SET and CUE_READ, each configuration with every field as sent. The edge in the TRIGGER of a
line that becomes active without an edge is the model's reading (log 19), and that a CUE_SET with action
REPORT keeps the filter's slot, fallback level and fallback regions its choice (log 20). -/
def Obligations.TriggerAndCueConfiguration : Prop :=
  ∀ (s : State) (r : Request) (rest : List Request) (n : Fin 4), Taking s r rest →
    (∀ (c : LineConfig) (u : State), r.kind = 0x68 → c.Valid →
      r.body = [octet n.val, flagOctet c.enabled,
          match c.edge with | .rising => 1 | .falling => 2 | .both => 3,
          match c.mode with | .pulse => 1 | .held => 2,
          octet c.source.slot.val, octet c.source.level.val]
        ++ be16 c.source.regions.toNat ++ [octet c.filterTime] →
      u = (s.taken rest).withLines (s.lines.set n
        { s.lines[n] with config := c, timer := s.lines[n].timer.map fun _ => c.filterTime }) →
      (c.enabled = false ∨ c.mode = .pulse ∨ s.lines[n].settled = none ∨
          s.lines[n].settled ≠ (if c.edge = .rising then some .high else some .low) ∨
          (s.lines[n].active = true ∧ s.lines[n].config.edge = c.edge) →
        exec .trigSet s = .next (u.replied r .done [])) ∧
      (c.enabled = true → c.mode = .held →
        s.lines[n].settled = (if c.edge = .rising then some .high else some .low) →
        (s.lines[n].active = false ∨ s.lines[n].config.edge.activeLevel ≠ c.edge.activeLevel) →
        exec .trigSet s = .next
          (((u.raise .trigger [octet n.val, if c.edge = .rising then 1 else 2, 2]).sourceRequest
            (.trigger n) c.source).replied r .done []))) ∧
    (r.kind = 0x69 → r.body = [] →
      exec .trigRead s = .next
        (((s.taken rest).withLines (mapTable (fun l => { l with pending := false }) s.lines)).replied r
          .done
          (s.lines.toList.flatMap fun l =>
            [flagOctet l.config.enabled,
              match l.config.edge with | .rising => 1 | .falling => 2 | .both => 3,
              match l.config.mode with | .pulse => 1 | .held => 2,
              octet l.config.source.slot.val, octet l.config.source.level.val]
            ++ be16 l.config.source.regions.toNat
            ++ [octet l.config.filterTime,
                match l.settled with | some .low => 0 | some .high => 1 | none => 2,
                flagOctet l.pending]))) ∧
    (∀ c : CueConfig, r.kind = 0x6A → c.Valid → r.body = c.octets n →
      exec .cueSet s = .next
        (((s.taken rest).withCues (s.cues.set n
          { config := { c with source := if c.raises then c.source else s.cues[n].config.source }
            hits := 0 })).replied r .done [])) ∧
    (r.kind = 0x6B → r.body = [octet n.val] →
      exec .cueRead s = .next
        (((s.taken rest).withCues (s.cues.set n { s.cues[n] with hits := 0 })).replied r .done
          (s.cues[n].config.octets n ++ be16 s.cues[n].hits.toNat)))

/-- R153 to R156, R165: a raw change starts, restarts or stops the filter timer; its expiry at 0 settles the
raw level, sets the pending flag for an edge of the configured kind, and acts on an enabled line: TRIGGER
and a request for admission, or a release. An expiry that finds the timer restarted, or stopped, does
nothing. The edge in the TRIGGER of a line found at its active level at its first settling, where no edge
is accepted, is the model's reading (log 19). -/
def Obligations.RawChangesSettleAndTrigger : Prop :=
  ∀ (s : State) (n : Fin 4) (l : TriggerLine), s.powered = true → l = s.lines[n] →
    (∀ level : PinLevel,
      (level = l.raw → exec (.triggerRawChange n level) s = .next s.choose) ∧
      (level ≠ l.raw → l.settled = some level →
        exec (.triggerRawChange n level) s = .next
          (s.withLines (s.lines.set n { l with raw := level, timer := none })).choose) ∧
      (level ≠ l.raw → l.settled ≠ some level →
        exec (.triggerRawChange n level) s = .next
          (s.withLines (s.lines.set n
            { l with raw := level, timer := some l.config.filterTime })).choose)) ∧
    (l.timer ≠ some 0 → exec (.filterTimerExpiry n) s = .next s.choose) ∧
    (∀ (edge : Octet) (u : State), l.timer = some 0 → edge = (if l.raw = .high then 1 else 2) →
      (∀ (old : PinLevel) (counted : Bool), l.settled = some old → old ≠ l.raw →
        (counted = true ↔ (l.config.edge = .both ∨ l.config.edge = .rising ∧ l.raw = .high ∨
          l.config.edge = .falling ∧ l.raw = .low)) →
        u = s.withLines (s.lines.set n
          { l with settled := some l.raw, timer := none, pending := l.pending || counted }) →
        (l.config.enabled = false ∨ (l.config.mode = .pulse ∧ counted = false) →
          exec (.filterTimerExpiry n) s = .next u.choose) ∧
        (l.config.enabled = true → l.config.mode = .pulse → counted = true →
          exec (.filterTimerExpiry n) s = .next
            ((u.raise .trigger [octet n.val, edge, 1]).sourceRequest (.trigger n)
              l.config.source).choose) ∧
        (l.config.enabled = true → l.config.mode = .held → l.config.edge ≠ .both → counted = true →
          exec (.filterTimerExpiry n) s = .next
            ((u.raise .trigger [octet n.val, edge, 2]).sourceRequest (.trigger n)
              l.config.source).choose) ∧
        (l.config.enabled = true → l.config.mode = .held → l.config.edge ≠ .both → counted = false →
          exec (.filterTimerExpiry n) s = .next
            ((u.raise .trigger [octet n.val, edge, 2]).releaseAlert (.trigger n)).choose)) ∧
      (l.settled = none →
        u = s.withLines (s.lines.set n { l with settled := some l.raw, timer := none }) →
        (l.config.enabled = true ∧ l.config.mode = .held ∧
            (l.config.edge = .rising ∧ l.raw = .high ∨ l.config.edge = .falling ∧ l.raw = .low) →
          exec (.filterTimerExpiry n) s = .next
            ((u.raise .trigger [octet n.val, edge, 2]).sourceRequest (.trigger n)
              l.config.source).choose) ∧
        (l.config.enabled = false ∨ l.config.mode = .pulse ∨
            (l.config.edge = .rising ∧ l.raw = .low ∨ l.config.edge = .falling ∧ l.raw = .high) →
          exec (.filterTimerExpiry n) s = .next u.choose)))

/-- R157, R158, R161, R162, R171: a source's request builds its content from the mirror or falls back, and
is admitted, refreshes the source's IN_FORCE alert, or replaces its ENDING one; into a full list it is
admitted where room is made, and lost with ALERT_LOST where none is; a handed ancillary field that matches
an enabled filter counts a hit, raises CUE_MATCH, and with RAISE makes such a request. That the filters are
examined in ascending number is the model's choice (log 18; R161 says they need no order). -/
def Obligations.SourceRequestsAndCueMatches : Prop :=
  ∀ s : State,
    (∀ (origin : Origin) (source : SourceContent),
      (∀ c, s.templates.mirror[source.slot] = .written c →
        s.sourceRequest origin source = s.sourceAdmission origin c.toAlertContent) ∧
      (∀ m : Octet, (s.templates.mirror[source.slot] = .blank ∧ m = 0 ∨
          s.templates.mirror[source.slot] = .damaged ∧ m = 4) →
        s.sourceRequest origin source
          = (s.raise .templateUnusable [origin.code, octet source.slot.val, m]).sourceAdmission origin
            { level := source.level, regions := source.regions, stream := none, duration := 0
              text := [] })) ∧
    (∀ (origin : Origin) (c : AlertContent),
      ((∀ a ∈ s.alerts.alerts, a.origin ≠ origin) → s.alerts.alerts.length < 8 →
        s.alerts.counter ≠ BitVec.allOnes 32 →
        ∃ number : Octet, number ≠ 0 ∧ (∀ a ∈ s.alerts.alerts, a.number ≠ number) ∧
          s.sourceAdmission origin c
            = (s.withAlerts
              { s.alerts with
                alerts := s.alerts.alerts ++
                  [{ number := number, stamp := s.alerts.counter + 1, origin := origin, content := c
                     remaining := c.duration * 1000, state := .inForce }]
                lastNumber := number, counter := s.alerts.counter + 1, active := true }).raise
              .alertAdmitted [number, origin.code, octet c.level.val]) ∧
      ((∀ a ∈ s.alerts.alerts, a.origin ≠ origin) → s.alerts.alerts.length = 8 →
        s.alerts.counter ≠ BitVec.allOnes 32 →
        (s.alerts.makeRoom c.level = none →
          s.sourceAdmission origin c = s.raise .alertLost [origin.code, octet c.level.val]) ∧
        (∀ (u : AlertUnit) (events : Events), s.alerts.makeRoom c.level = some (u, events) →
          ∃ number : Octet, number ≠ 0 ∧ (∀ a ∈ u.alerts, a.number ≠ number) ∧
            s.sourceAdmission origin c
              = (s.withAlerts
                { u with
                  alerts := u.alerts ++
                    [{ number := number, stamp := s.alerts.counter + 1, origin := origin, content := c
                       remaining := c.duration * 1000, state := .inForce }]
                  lastNumber := number, counter := s.alerts.counter + 1, active := true }).raiseAll
                (events ++ [(.alertAdmitted, [number, origin.code, octet c.level.val])]))) ∧
      ((∀ a ∈ s.alerts.alerts, a.origin ≠ origin) → s.alerts.counter = BitVec.allOnes 32 →
        s.sourceAdmission origin c = s.raise .alertLost [origin.code, octet c.level.val]) ∧
      (∀ a ∈ s.alerts.alerts, AlertListLaw s → origin ≠ .host → a.origin = origin →
        (a.state = .inForce →
          s.sourceAdmission origin c = s.withAlerts
            { s.alerts with
              alerts := s.alerts.alerts.map fun b =>
                if b = a then { a with remaining := a.content.duration * 1000 } else b }) ∧
        (a.state ≠ .inForce →
          s.sourceAdmission origin c
            = (s.withAlerts
              { s.alerts with
                alerts := s.alerts.alerts.filter fun b => decide (b ≠ a)
                active :=
                  (s.alerts.alerts.filter fun b => decide (b ≠ a)).any fun b =>
                    decide (b.state = .inForce) }).sourceAdmission origin c))) ∧
    (∀ (port : Fin 8) (stream : Fin 4) (field : Octets) (n : Fin 4) (f : CueFilter) (m : Prop),
      f = s.cues[n] →
      (m ↔ f.config.enabled = true ∧ f.config.port = port ∧
        (f.config.stream = none ∨ f.config.stream = some stream) ∧
        ∀ g ∈ f.config.segments, g.offset + g.pattern.length ≤ field.length ∧
          ∀ j, j < g.pattern.length →
            field.getD (g.offset + j) 0 &&& g.mask.getD j 0
              = g.pattern.getD j 0 &&& g.mask.getD j 0) →
      s.handOn port stream field = (List.finRange 4).foldl (State.examine port stream field) s ∧
      (¬ m → State.examine port stream field s n = s) ∧
      (m → ∃ u : State,
        u = (s.withCues (s.cues.set n { f with hits := satInc f.hits })).raise .cueMatch
          ([octet n.val, octet port.val, octet stream.val] ++ be16 (satInc f.hits).toNat) ∧
        (f.config.raises = false → State.examine port stream field s n = u) ∧
        (f.config.raises = true →
          State.examine port stream field s n = u.sourceRequest (.cue n) f.config.source)))

/-! ### Alerts -/

/-- R167, R169, R170, R172, R173, R181: ALERT_RAISE of a content within its ranges, or of a template, into
a list with room; ALERT_CLEAR; the expiry of an IN_FORCE alert with a duration whose remaining time has
reached 0, and an expiry that finds time remaining or the alert ENDING; ALERT_LIST. -/
def Obligations.AlertRaiseClearExpireList : Prop :=
  ∀ s : State, AlertListLaw s →
    (∀ (r : Request) (rest : List Request) (c : AlertContent), Taking s r rest → r.kind = 0x70 →
      (c.Valid 0 ∧ r.body = [2, 0] ++ c.octets ∨
        ∃ (i : Fin 16) (b : Octets) (w : TemplateContent), r.body = [1, octet i.val] ++ b ∧
          b.length = 249 ∧ s.templates.mirror[i] = .written w ∧ w.toAlertContent = c) →
      s.alerts.alerts.length < 8 → s.alerts.counter ≠ BitVec.allOnes 32 →
      ∃ number : Octet, number ≠ 0 ∧ (∀ a ∈ s.alerts.alerts, a.number ≠ number) ∧
        (∀ after : Octet,
          after = (if s.alerts.lastNumber = 255 then 1 else s.alerts.lastNumber + 1) →
          (∀ a ∈ s.alerts.alerts, a.number ≠ after) → number = after) ∧
        exec .alertRaise s = .next
          ((((s.taken rest).withAlerts
            { s.alerts with
              alerts := s.alerts.alerts ++
                [{ number := number, stamp := s.alerts.counter + 1, origin := .host, content := c
                   remaining := c.duration * 1000, state := .inForce }]
              lastNumber := number, counter := s.alerts.counter + 1, active := true }).raise
            .alertAdmitted [number, 0, octet c.level.val]).replied r .done [number])) ∧
    (∀ (r : Request) (rest : List Request) (a : Alert), Taking s r rest → r.kind = 0x71 →
      r.body = [a.number] → a ∈ s.alerts.alerts →
      (a.state = .inForce →
        exec .alertClear s = .next
          ((((s.taken rest).withAlerts
            { s.alerts with
              alerts := s.alerts.alerts.map fun b =>
                if b = a then { a with state := .ending .cleared 3 } else b
              active := s.alerts.alerts.any fun b =>
                decide (b ≠ a) && decide (b.state = .inForce) }).raise .alertEnded
            [a.number, a.origin.code, 1]).replied r .done [])) ∧
      (a.state ≠ .inForce → exec .alertClear s = .next ((s.taken rest).replied r .alreadyEnding []))) ∧
    (∀ a ∈ s.alerts.alerts, s.powered = true →
      (a.state ≠ .inForce ∨ a.content.duration = 0 ∨ a.remaining ≠ 0) →
      exec (.alertTimerExpiry a.number) s = .next s.choose) ∧
    (∀ a ∈ s.alerts.alerts, s.powered = true → a.state = .inForce → a.content.duration ≠ 0 →
      a.remaining = 0 →
      exec (.alertTimerExpiry a.number) s = .next
        ((s.withAlerts
          { s.alerts with
            alerts := s.alerts.alerts.map fun b =>
              if b = a then { a with state := .ending .expired 3 } else b
            active := s.alerts.alerts.any fun b =>
              decide (b ≠ a) && decide (b.state = .inForce) }).raise .alertEnded
          [a.number, a.origin.code, 2]).choose) ∧
    (∀ (r : Request) (rest : List Request), Taking s r rest → r.kind = 0x72 → r.body = [] →
      exec .alertList s = .next ((s.taken rest).replied r .done
        ([octet s.alerts.alerts.length, s.alerts.lastNumber]
          ++ s.alerts.alerts.flatMap fun a =>
            [a.number, a.origin.code, octet a.content.level.val] ++ be16 a.content.regions.toNat
              ++ streamOctets a.content.stream ++ be16 a.content.duration
              ++ be32 (if a.state = .inForce ∧ a.content.duration ≠ 0 then a.remaining else 0)
              ++ (match a.state with
                | .inForce => [1, 0, 0]
                | .ending reason left =>
                  [2, match reason with | .cleared => 1 | .expired => 2 | .released => 3, octet left])
              ++ [octet a.content.text.length] ++ be32 (s.alerts.takenSet a.stamp))))

/-- R167, R171: an admission that finds 8 alerts: the earliest ENDING alert makes room without a report,
else the latest alert of the lowest level, if that is below the new alert's, is displaced with
ALERT_ENDED, else there is no room. An ALERT_RAISE that finds no room, or the admission counter at its
maximum, is refused LIST_FULL; where room is made its admission is carried out. -/
def Obligations.FullListMakesRoom : Prop :=
  ∀ s : State, AlertListLaw s → s.alerts.alerts.length = 8 →
    (∀ (level : Fin 8) (pre post : List Alert) (a : Alert), s.alerts.alerts = pre ++ a :: post →
      (a.state ≠ .inForce → (∀ b ∈ pre, b.state = .inForce) →
        s.alerts.makeRoom level = some
          ({ s.alerts with
             alerts := pre ++ post
             active := (pre ++ post).any fun b => decide (b.state = .inForce) }, [])) ∧
      ((∀ b ∈ s.alerts.alerts, b.state = .inForce) →
        (∀ b ∈ pre, a.content.level ≤ b.content.level) →
        (∀ b ∈ post, a.content.level < b.content.level) →
        (a.content.level < level →
          s.alerts.makeRoom level = some
            ({ s.alerts with
               alerts := pre ++ post
               active := (pre ++ post).any fun b => decide (b.state = .inForce) },
              [(.alertEnded, [a.number, a.origin.code, 4])])) ∧
        (level ≤ a.content.level → s.alerts.makeRoom level = none))) ∧
    (∀ (r : Request) (rest : List Request) (c : AlertContent), Taking s r rest → r.kind = 0x70 →
      c.Valid 0 → r.body = [2, 0] ++ c.octets →
      (s.alerts.makeRoom c.level = none ∨ s.alerts.counter = BitVec.allOnes 32 →
        exec .alertRaise s = .next ((s.taken rest).replied r .listFull [])) ∧
      (∀ (u : AlertUnit) (events : Events), s.alerts.makeRoom c.level = some (u, events) →
        s.alerts.counter ≠ BitVec.allOnes 32 →
        ∃ number : Octet, number ≠ 0 ∧ (∀ a ∈ u.alerts, a.number ≠ number) ∧
          exec .alertRaise s = .next
            ((((s.taken rest).withAlerts
              { u with
                alerts := u.alerts ++
                  [{ number := number, stamp := s.alerts.counter + 1, origin := .host, content := c
                     remaining := c.duration * 1000, state := .inForce }]
                lastNumber := number, counter := s.alerts.counter + 1, active := true }).raiseAll
              (events ++ [(.alertAdmitted, [number, 0, octet c.level.val])])).replied r .done
              [number])))

/-- R174 to R176: what the alert unit does at a new frame assembly start: ENDING alerts age, an on-air
service is taken by the covering alert of highest level, the earliest of equals, its cursor starts at 0
with a new taker, and a service not on air keeps its record. -/
def Obligations.CoverageTakesTheHighestEarliest : Prop :=
  ∀ (u : AlertUnit) (view : ServiceTable) (onAir : Fin 32 → Bool) (v : AlertUnit),
    v = (u.start view onAir).1 →
    (v.alerts = u.alerts.filterMap fun a =>
      match a.state with
      | .inForce => some a
      | .ending _ 0 => none
      | .ending reason (n + 1) => some { a with state := .ending reason n }) ∧
    v.lastNumber = u.lastNumber ∧ v.counter = u.counter ∧
    (∀ i : Fin 32, onAir i = false → v.takers[i] = u.takers[i] ∧ v.cursors[i] = u.cursors[i]) ∧
    (∀ (i : Fin 32) (w : Service) (covers : Alert → Prop), onAir i = true → view[i] = some w →
      (∀ a, covers a ↔ a.state = .inForce ∧ a.content.regions &&& w.regions ≠ 0 ∧
        w.protection < a.content.level) →
      (∀ (pre post : List Alert) (a : Alert), v.alerts = pre ++ a :: post → covers a →
        (∀ b ∈ pre, covers b → b.content.level < a.content.level) →
        (∀ b ∈ post, covers b → b.content.level ≤ a.content.level) →
        v.takers[i] = some a.stamp ∧
          v.cursors[i] = if u.takers[i] = some a.stamp then u.cursors[i] else 0) ∧
      ((∀ a ∈ v.alerts, ¬ covers a) → v.takers[i] = none ∧ v.cursors[i] = u.cursors[i]))

/-! ### The directory -/

/-- R86, R87, R90 to R96: a start rebuilds the rotation list; removes from the fresh queue what has ceased;
marks items that are new or changed, at a switch every SERVICE item and after a RESTART every item, which
join the queue in list order unless they are in it; counts and raises each changed item that was in it
(in list order: log 34); and gives eight slots: the FRAME entry, up to 4 ALERT items in the order of R93,
the announcement, the first two items of the queue, the items of the walk from the cursor, and EMPTY
entries. What is carried leaves the queue. The walk with slots left over a list that is not empty starts at
the cursor, or at 0 if the cursor is beyond the list; it examines n items in list order, wrapping, passes
over those carried as fresh, and carries the others; it stops when the slots are full or every item has
been examined, and no earlier; and the cursor is then just after the last item examined. -/
def Obligations.DirectoryFillsEightSlots : Prop :=
  (∀ (d : Directory) (count : BitVec 16) (account : PlanAccount) (view : ServiceTable)
     (ports : Vector Port 8) (alerts carried : List Alert) (rotation : Rotation)
     (changed marked : ItemKey × SlotItem → Bool) (kept queue superseded : List ItemKey),
     rotation = rotationOf ports view account →
     (∀ x, changed x = true ↔ ∃ c, contentsOf d.rotation x.1 = some c ∧ c ≠ x.2) →
     (∀ x, marked x = true ↔ contentsOf d.rotation x.1 = none ∨ changed x = true ∨
       (account.switched = true ∧ x.1.kind = .service) ∨ d.restarted = true) →
     kept = d.fresh.filter (fun k => decide (k ∈ rotation.map Prod.fst)) →
     queue = kept ++ ((rotation.filter marked).map Prod.fst).filter (fun k => decide (k ∉ kept)) →
     superseded = (rotation.filter fun x => changed x && decide (x.1 ∈ kept)).map Prod.fst →
     (alerts.length ≤ 4 → carried = alerts) →
     (4 < alerts.length → d.mark = none → carried = alerts.take 4) →
     (∀ m, 4 < alerts.length → d.mark = some m →
       carried = ((alerts.filter fun a => decide (m < a.stamp))
         ++ alerts.filter fun a => decide (a.stamp ≤ m)).take 4) →
     ∃ (e : Directory) (announced fresh : List SlotItem) (walked : Rotation) (slots : Nat),
       announced = account.announcement.item.toList ∧
       fresh = (queue.take 2).filterMap (contentsOf rotation) ∧ fresh.length = min 2 queue.length ∧
       slots = 7 - (carried.length + announced.length + fresh.length) ∧
       (walked, e.cursor) = walkFrom rotation (queue.take 2) slots d.cursor ∧
       d.start count account view ports alerts =
         (e, (.frame
             { count := count, plan := account.number, countdown := account.countdown
               levels := levelsInForce alerts, regions := regionsInForce alerts }
           :: (carried.map Alert.item ++ announced ++ fresh ++ walked.map Prod.snd
             ++ List.replicate (slots - walked.length) .empty)),
           superseded.map fun k =>
             (.directorySuperseded,
               [match k.kind with | .service => 1 | .longname => 2 | .nextrun => 3,
                 octet k.service.val])) ∧
       carried.length + announced.length + fresh.length + walked.length ≤ 7 ∧
       e.rotation = rotation ∧
       e.fresh = queue.filter (fun k => decide (k ∉ queue.take 2 ∧ k ∉ walked.map Prod.fst)) ∧
       e.mark = (match carried.getLast? with | some a => some a.stamp | none => d.mark) ∧
       e.restarted = false ∧
       e.superseded.toNat = min 65535 (d.superseded.toNat + superseded.length)) ∧
  (∀ (rotation : Rotation) (fresh : List ItemKey) (slots cursor start : Nat), rotation ≠ [] → 0 < slots →
    start = (if rotation.length ≤ cursor then 0 else cursor) →
    ∃ (n : Nat) (upTo : Nat → Rotation),
      (∀ m, upTo m =
        ((List.range m).filterMap fun j => rotation[(start + j) % rotation.length]?).filter
          fun x => decide (x.1 ∉ fresh)) ∧
      walkFrom rotation fresh slots cursor = (upTo n, (start + n) % rotation.length) ∧
      n ≤ rotation.length ∧ (n = rotation.length ∨ (upTo n).length = slots) ∧
      ∀ m, m < n → (upTo m).length < slots) ∧
  ∀ (rotation : Rotation) (fresh : List ItemKey) (slots cursor : Nat),
    (0 < slots → walkFrom [] fresh slots cursor = ([], 0)) ∧
    walkFrom rotation fresh 0 cursor = ([], cursor)

/-! ### Laws that every step keeps -/

/-- R166, R168: ALERT_ACTIVE follows the list, and the list keeps its order, its numbers and its origins. -/
def Obligations.AlertLawsKept : Prop :=
  ∀ s t : State, step s = .next t →
    (AlertActiveLaw s → AlertActiveLaw t) ∧ (AlertListLaw s → AlertListLaw t)

/-- R140 to R142: checks, locks and operations of the template slots. -/
def Obligations.TemplateLawKept : Prop := ∀ s t : State, TemplateLaw s → step s = .next t → TemplateLaw t

/-- R38, R47, R56: what a port's state allows it to hold. -/
def Obligations.PortLawKept : Prop := ∀ s t : State, PortLaw s → step s = .next t → PortLaw t

/-- R2, R3, R5, R16, R17, R19, R32: the banks, the records they name, and the ids and bindings. -/
def Obligations.PlanAndServiceLawsKept : Prop :=
  ∀ s t : State, step s = .next t →
    (PlanLaw s → PlanLaw t) ∧ (PlanLaw s → PlannedLaw s → PlannedLaw t) ∧ (ServiceLaw s → ServiceLaw t)

/-- R65, R70, R186, R189: the two buffers hold what the output state says, the request queue and the
replies stay within their limits, and an idle transmitter has nothing to send. -/
def Obligations.OutputAndControlLawsKept : Prop :=
  ∀ s t : State, step s = .next t →
    (OutputLaw s → OutputLaw t) ∧ (ControlLaw s → ControlLaw t) ∧ (TransmitterLaw s → TransmitterLaw t)

/-- R101, R102, R103, R109, R120 to R122: the page memory keeps its canonical form, the pages their owners,
the objects their sizes, the lanes their entries, and each reference count its meaning. -/
def Obligations.StoreLawsKept : Prop :=
  ∀ s t : State, step s = .next t →
    (MemoryLaw s → MemoryLaw t) ∧ (PageLaw s → PageLaw t) ∧ (ObjectLaw s → ObjectLaw t) ∧
    (LaneLaw s → LaneLaw t) ∧ (LaneLaw s → ReferenceLaw s → ReferenceLaw t)

/-- The laws hold of the part right after power-on. -/
def Obligations.LawsHoldAtReset : Prop :=
  AlertActiveLaw State.reset ∧ AlertListLaw State.reset ∧ MemoryLaw State.reset ∧
  TemplateLaw State.reset ∧ PortLaw State.reset ∧ PlanLaw State.reset ∧ PlannedLaw State.reset ∧
  ServiceLaw State.reset ∧ ControlLaw State.reset ∧ TransmitterLaw State.reset ∧
  OutputLaw State.reset ∧ LaneLaw State.reset ∧ PageLaw State.reset ∧ ObjectLaw State.reset ∧
  ReferenceLaw State.reset
end

