-- ==== Sys2Proof/Laws/Expiry.lean ====
section
/-! SUPPORT. What a stored check says at the start-up read, and when an expiry has its effect. -/

namespace Sys2Proof.Machine

/-! ### Contents as stored (R140, R144, R150) -/

@[simp] theorem AlertContent.stored_content (c : AlertContent) : c.stored.toAlertContent = c := rfl

@[simp] theorem AlertContent.stored_check (c : AlertContent) :
    c.stored.check = Config.templateCheck c.octets := rfl

@[simp] theorem AlertContent.stored_agrees (c : AlertContent) : c.stored.agrees = true := by
  simp [TemplateContent.agrees, AlertContent.computedCheck]

/-- The check agrees exactly when it is the one recomputed. -/
theorem TemplateContent.agrees_iff (c : TemplateContent) :
    c.agrees = true ↔ c.check = Config.templateCheck c.octets := decide_eq_true_iff

/-- A WRITTEN slot whose check agrees reads as it was. -/
theorem SlotState.readBack_agreeing {c : TemplateContent} (h : c.agrees = true) :
    (SlotState.written c).readBack = .written c := by simp [SlotState.readBack, h]

/-- One whose check disagrees reads as DAMAGED. -/
theorem SlotState.readBack_disagreeing {c : TemplateContent} (h : c.agrees = false) :
    (SlotState.written c).readBack = .damaged := by simp [SlotState.readBack, h]

/-! ### Expiry of alerts (R173) -/

theorem Alert.inForce_iff (a : Alert) : a.inForce = true ↔ a.state = .inForce := by simp [Alert.inForce]

theorem Alert.timed_iff (a : Alert) :
    a.timed = true ↔ a.state = .inForce ∧ a.content.duration ≠ 0 := by simp [Alert.timed, Alert.inForce]

theorem Alert.due_iff (a : Alert) :
    a.due = true ↔ a.state = .inForce ∧ a.content.duration ≠ 0 ∧ a.remaining = 0 := by
  simp [Alert.due, Alert.timed_iff, and_assoc]

/-- The expiry of an alert whose time has come ends it. -/
theorem alertTimerExpiry_of_due {s : State} {n : Octet} {a : Alert} (h : s.alerts.find n = some a)
    (hd : a.due = true) : alertTimerExpiry n s = s.endAlert a .expired := by
  simp [alertTimerExpiry, h, hd]

/-- Every other expiry does nothing. -/
theorem alertTimerExpiry_otherwise {s : State} {n : Octet}
    (h : ∀ a, s.alerts.find n = some a → a.due = false) : alertTimerExpiry n s = s := by
  unfold alertTimerExpiry
  split
  · rfl
  · rename_i a ha
    simp [h a ha]

/-- After a refresh the time is the full duration again. -/
theorem AlertUnit.refresh_alerts (u : AlertUnit) (n : Octet) :
    (u.refresh n).alerts = u.alerts.map fun a =>
      if a.number = n then { a with remaining := a.content.duration * 1000 } else a := rfl

/-! ### A step with no command waiting -/

theorem step_millisecond {s : State} (h : s.pending = []) (hp : s.powered = true) :
    step s = .next s.tick := by simp [step, h, hp]

theorem step_unpowered {s : State} (h : s.pending = []) (hp : s.powered = false) :
    step s = .next s := by simp [step, h, hp]

/-- A millisecond changes what the countdown changes, and the list of commands. -/
theorem State.tick_eq (s : State) :
    s.tick = s.countDown.withPending (s.pending ++ s.countDown.expiries) := rfl

theorem Timer.due_iff (t : Timer) : t.due = true ↔ t = some 0 := decide_eq_true_iff

/-- A timer's expiry joins the list exactly when the timer stands at 0. -/
theorem Timer.mem_expiry (t : Timer) (c d : Instr) : d ∈ t.expiry c ↔ t = some 0 ∧ d = c := by
  unfold Timer.expiry
  split <;> rename_i h
  · simp [(Timer.due_iff t).mp h]
  · simp [mt (Timer.due_iff t).mpr h]

/-! ### Expiries that find time left, or their timer stopped (log 4) -/

theorem startingEnd_otherwise {s : State} (h : s.control.startTimer.due = false) : startingEnd s = s := by
  unfold startingEnd
  split <;> simp [h]

theorem offerWordPeriod_otherwise {s : State} {n : Fin 8} (h : s.ports[n].period.due = false) :
    offerWordPeriod n s = s := if_neg (by rw [h]; decide)

theorem listenTimerExpiry_otherwise {s : State} {n : Fin 8} (h : s.ports[n].listenTimer.due = false) :
    listenTimerExpiry n s = s := if_neg (by rw [h, Bool.false_and]; decide)

theorem filterTimerExpiry_otherwise {s : State} {n : Fin 4} (h : s.lines[n].timer.due = false) :
    filterTimerExpiry n s = s := if_neg (by rw [h]; decide)

theorem eraseEnd_otherwise {s : State} (h : ∀ o, s.templates.operation = some o → o.timer ≠ 0) :
    eraseEnd s = s := by
  unfold eraseEnd
  split
  · exact absurd rfl (h _ ‹_›)
  · rfl

theorem writeEnd_otherwise {s : State} (h : ∀ o, s.templates.operation = some o → o.timer ≠ 0) :
    writeEnd s = s := by
  unfold writeEnd
  split
  · exact absurd rfl (h _ ‹_›)
  · rfl

/-- A raw change leaves the filter timer stopped, or with the whole filter time to run. -/
theorem TriggerLine.rawChange_timer (l : TriggerLine) (level : PinLevel) (h : level ≠ l.raw) :
    (l.rawChange level).timer = none ∨ (l.rawChange level).timer = some l.config.filterTime := by
  unfold TriggerLine.rawChange
  split
  · exact absurd (Eq.symm ‹_›) h
  · split <;> simp

/-- A valid arrival leaves the link timer with 250 ms, or stopped: an expiry then does nothing. -/
theorem Port.heard_not_due (p : Port) : p.heard.linkTimer.due = false := by
  cases h : p.linkTimer <;> simp [Port.heard, h, Timer.due, linkLimit]

theorem linkTimerExpiry_otherwise {s : State} {n : Fin 8} (h : s.ports[n].linkTimer.due = false) :
    linkTimerExpiry n s = s := if_neg (by rw [h]; decide)

/-- So does a pull that sends a frame with the stall timer. -/
theorem Output.sending_not_due (o : Output) (a b : FrameBuffer) :
    (o.sending a b).stallTimer.due = false := by simp [Output.sending, Timer.due, stallLimit]

theorem stallTimerExpiry_otherwise {s : State} (h : s.output.stallTimer.due = false) :
    stallTimerExpiry s = s := by simp [stallTimerExpiry, h]

end Sys2Proof.Machine
end

