-- ==== Sys2Proof/Laws/Memory.lean ====
section
/-! SUPPORT. The page memory: reading after writing, and the canonical form kept by every operation. -/

namespace Sys2Proof.Machine

/-! ### The canonical form -/

theorem Memory.wfFrom_mono {m : Memory} : ∀ {lo hi : Nat}, hi ≤ lo → Memory.wfFrom lo m = true →
    Memory.wfFrom hi m = true := by
  cases m with
  | nil => intros; rfl
  | cons c rest =>
    intro lo hi h w
    obtain ⟨b, v⟩ := c
    simp [Memory.wfFrom] at w ⊢
    exact ⟨⟨by omega, w.1.2⟩, w.2⟩

theorem Memory.wfFrom_list {m : Memory} {lo a : Nat} {v : Octet} (h : lo ≤ a)
    (w : Memory.wfFrom (a + 1) m = true) : Memory.wfFrom lo (Memory.list m a v) = true := by
  unfold Memory.list
  split
  · exact Memory.wfFrom_mono (by omega) w
  · rename_i hv; simp [Memory.wfFrom, h, hv, w]

theorem Memory.wfFrom_write {v : Octet} {a : Nat} : ∀ {m : Memory} {lo : Nat}, lo ≤ a →
    Memory.wfFrom lo m = true → Memory.wfFrom lo (Memory.write m a v) = true := by
  intro m
  induction m with
  | nil => intro lo h _; exact Memory.wfFrom_list h rfl
  | cons c rest ih =>
    obtain ⟨b, w⟩ := c
    intro lo h hw
    have hw' := hw
    simp [Memory.wfFrom] at hw'
    obtain ⟨⟨hb, hne⟩, hrest⟩ := hw'
    rw [Memory.write]
    split
    · apply Memory.wfFrom_list h
      simp [Memory.wfFrom, hne, hrest]; omega
    · split
      · rename_i hab; subst hab; exact Memory.wfFrom_list h hrest
      · simp [Memory.wfFrom, hb, hne]
        exact ih (by omega) hrest

/-- A write keeps the canonical form. -/
theorem Memory.wf_write {m : Memory} {a : Nat} {v : Octet} (h : Memory.wf m = true) :
    Memory.wf (Memory.write m a v) = true := Memory.wfFrom_write (Nat.zero_le _) h

/-- Several writes keep it. -/
theorem Memory.wf_writeAll {b : Octets} : ∀ {m : Memory} {a : Nat}, Memory.wf m = true →
    Memory.wf (Memory.writeAll m a b) = true := by
  induction b with
  | nil => intro m a h; exact h
  | cons v rest ih => intro m a h; exact ih (Memory.wf_write h)

theorem Memory.wfFrom_filter {p : Host.Cell → Bool} : ∀ {m : Memory} {lo : Nat},
    Memory.wfFrom lo m = true → Memory.wfFrom lo (m.filter p) = true := by
  intro m
  induction m with
  | nil => intros; rfl
  | cons c rest ih =>
    obtain ⟨b, w⟩ := c
    intro lo h
    simp [Memory.wfFrom] at h
    obtain ⟨⟨hb, hne⟩, hrest⟩ := h
    rw [List.filter_cons]
    split
    · simp [Memory.wfFrom, hb, hne, ih hrest]
    · exact Memory.wfFrom_mono (by omega) (ih hrest)

/-- Clearing pages keeps it. -/
theorem Memory.wf_clearPages {m : Memory} {pages : List Nat} (h : Memory.wf m = true) :
    Memory.wf (Memory.clearPages m pages) = true := Memory.wfFrom_filter h

/-! ### Reading after writing -/

theorem Memory.read_above {m : Memory} {lo a : Nat} (h : Memory.wfFrom lo m = true) (ha : a < lo) :
    Memory.read m a = Memory.unlisted := by
  induction m generalizing lo with
  | nil => rfl
  | cons c rest ih =>
    obtain ⟨b, w⟩ := c
    simp [Memory.wfFrom] at h
    rw [Memory.read, if_neg (by omega)]
    exact ih h.2 (by omega)

theorem Memory.read_list {m : Memory} {a : Nat} {v : Octet} (c : Nat)
    (h : Memory.wfFrom (a + 1) m = true) :
    Memory.read (Memory.list m a v) c = if c = a then v else Memory.read m c := by
  unfold Memory.list
  split
  · rename_i hv
    split
    · rename_i hc; subst hc; rw [hv]; exact Memory.read_above h (by omega)
    · rfl
  · rw [Memory.read]

theorem Memory.read_write_from {a : Nat} {v : Octet} (c : Nat) : ∀ {m : Memory} {lo : Nat},
    Memory.wfFrom lo m = true →
    Memory.read (Memory.write m a v) c = if c = a then v else Memory.read m c := by
  intro m
  induction m with
  | nil => intro lo _; exact Memory.read_list c rfl
  | cons p rest ih =>
    obtain ⟨b, w⟩ := p
    intro lo h
    simp [Memory.wfFrom] at h
    obtain ⟨⟨hb, hne⟩, hrest⟩ := h
    rw [Memory.write]
    split
    · exact Memory.read_list c (by simp [Memory.wfFrom, hne, hrest]; omega)
    · split
      · rename_i hab; subst hab
        rw [Memory.read_list c hrest, Memory.read]
        split
        · rfl
        · rfl
      · rw [Memory.read, Memory.read, ih hrest]
        by_cases hcb : c = b <;> by_cases hca : c = a <;> simp [hcb, hca] <;> omega

/-- Reading an octet after one was written: the octet written, or what was there. -/
theorem Memory.read_write {m : Memory} (h : Memory.wf m = true) (a c : Nat) (v : Octet) :
    Memory.read (Memory.write m a v) c = if c = a then v else Memory.read m c :=
  Memory.read_write_from c h

/-- Reading after the octets of b were written from address a on. -/
theorem Memory.read_writeAll {b : Octets} : ∀ {m : Memory} {a : Nat}, Memory.wf m = true → ∀ c,
    Memory.read (Memory.writeAll m a b) c
      = if a ≤ c ∧ c < a + b.length then b.getD (c - a) 0 else Memory.read m c := by
  induction b with
  | nil =>
    intro m a _ c
    have : ¬ (a ≤ c ∧ c < a + ([] : Octets).length) := by simp
    rw [if_neg this]; rfl
  | cons v rest ih =>
    intro m a h c
    rw [Memory.writeAll, ih (Memory.wf_write h) c, Memory.read_write h]
    rcases Nat.lt_trichotomy c a with hlt | heq | hgt
    · rw [if_neg (by omega), if_neg (by omega), if_neg (by omega)]
    · subst heq; simp
    · simp only [List.length_cons]
      by_cases hin : c < a + 1 + rest.length
      · rw [if_pos ⟨by omega, hin⟩, if_pos ⟨by omega, by omega⟩]
        have : c - a = (c - (a + 1)) + 1 := by omega
        rw [this]; rfl
      · rw [if_neg (by omega), if_neg (by omega), if_neg (by omega)]

theorem Memory.read_filter {p : Nat → Bool} (c : Nat) : ∀ {m : Memory} {lo : Nat},
    Memory.wfFrom lo m = true →
    Memory.read (m.filter fun x => p x.1) c = if p c then Memory.read m c else Memory.unlisted := by
  intro m
  induction m with
  | nil => intro lo _; simp [Memory.read]
  | cons x rest ih =>
    obtain ⟨b, w⟩ := x
    intro lo h
    simp [Memory.wfFrom] at h
    rw [List.filter_cons]
    by_cases hb : p b = true
    · simp only [hb, if_true, Memory.read]
      by_cases hc : c = b
      · simp [hc, hb]
      · simp [hc, ih h.2]
    · simp only [hb, Memory.read]
      by_cases hc : c = b
      · subst hc
        rw [if_neg (by simp), ih h.2, if_neg hb, if_neg hb]
      · rw [if_neg (by simp), ih h.2]; simp [hc]

/-- Reading after pages were cleared: 0x00 inside them, and what was there outside. -/
theorem Memory.read_clearPages {m : Memory} (h : Memory.wf m = true) (pages : List Nat) (a : Nat) :
    Memory.read (Memory.clearPages m pages) a
      = if pages.contains (a / 512) then Memory.unlisted else Memory.read m a := by
  unfold Memory.clearPages
  rw [Memory.read_filter (p := fun b => !pages.contains (b / 512)) a h]
  cases pages.contains (a / 512) <;> rfl

/-! ### The store's operations -/

theorem ObjectStore.writeGroup_wf {st : ObjectStore} (h : Memory.wf st.memory = true) (key : Nat)
    (b : Octets) : Memory.wf (st.writeGroup key b).memory = true := Memory.wf_writeAll h

theorem ObjectStore.clearPages_wf {st : ObjectStore} (h : Memory.wf st.memory = true)
    (pages : List Nat) : Memory.wf (st.clearPages pages).memory = true := Memory.wf_clearPages h

theorem ObjectStore.flipBit_wf {st : ObjectStore} (h : Memory.wf st.memory = true) (key bit : Nat) :
    Memory.wf (st.flipBit key bit).memory = true := by
  unfold ObjectStore.flipBit
  dsimp only
  split
  · exact Memory.wf_write h
  · exact h

/-- The memory at reset has the canonical form. -/
theorem reset_memory_wf : MemoryLaw State.reset := rfl

end Sys2Proof.Machine
end

