-- ==== Sys2Proof/Laws/Ops.lean ====
section
/-! SUPPORT. Tables, counters, and the reading of quantities out of octets. -/

namespace Sys2Proof.Machine

/-! ### Tables -/

@[simp] theorem updateAt_same {α : Type} {n : Nat} (v : Vector α n) (i : Fin n) (f : α → α) :
    (updateAt v i f)[i] = f v[i] := by
  simp [updateAt]

theorem updateAt_other {α : Type} {n : Nat} (v : Vector α n) {i j : Fin n} (f : α → α) (h : j ≠ i) :
    (updateAt v i f)[j] = v[j] := by
  have : i.val ≠ j.val := fun e => h (Fin.ext e.symm)
  simp [updateAt, this]

/-- Reading a table after one element was changed. -/
theorem updateAt_get {α : Type} {n : Nat} (v : Vector α n) (i j : Fin n) (f : α → α) :
    (updateAt v i f)[j] = if j = i then f v[j] else v[j] := by
  split
  · rename_i h; subst h; exact updateAt_same _ _ _
  · rename_i h; exact updateAt_other _ _ h

/-- Reading a table after one element was set. -/
theorem set_get {α : Type} {n : Nat} (v : Vector α n) (i j : Fin n) (x : α) :
    (v.set i x)[j] = if j = i then x else v[j] := by
  by_cases h : j = i
  · subst h; simp
  · have : i.val ≠ j.val := fun e => h (Fin.ext e.symm)
    simp [h, this]

@[simp] theorem mapTable_get {α β : Type} {n : Nat} (f : α → β) (v : Vector α n) (i : Fin n) :
    (mapTable f v)[i] = f v[i] := by
  simp [mapTable]

/-- The same by a number with its bound, the form that simp brings an index to. -/
@[simp] theorem mapTable_getElem {α β : Type} {n : Nat} (f : α → β) (v : Vector α n) (i : Nat)
    (h : i < n) : (mapTable f v)[i] = f v[i] := by
  simp [mapTable]

@[simp] theorem updateAt_getElem {α : Type} {n : Nat} (v : Vector α n) (i : Fin n) (f : α → α) (j : Nat)
    (h : j < n) : (updateAt v i f)[j] = if i.val = j then f v[j] else v[j] := by
  unfold updateAt
  rw [Vector.getElem_set]
  split
  · rename_i e; subst e; rfl
  · rfl

/-! ### Quantities -/

theorem octet_toNat {n : Nat} (h : n < 256) : (octet n).toNat = n := by
  simp [octet]; omega

@[simp] theorem field_zero (o : Octet) (b : Octets) : field (o :: b) 0 = o.toNat := rfl

@[simp] theorem field_succ (o : Octet) (b : Octets) (i : Nat) : field (o :: b) (i + 1) = field b i := rfl

@[simp] theorem field16_succ (o : Octet) (b : Octets) (i : Nat) :
    field16 (o :: b) (i + 1) = field16 b i := rfl

/-- Two octets laid out and read back. -/
theorem field16_be16 {n : Nat} (h : n < 65536) (b : Octets) : field16 (be16 n ++ b) 0 = n := by
  simp [field16, be16, octet]
  omega

theorem toFin?_lt {k n : Nat} (h : n < k) : toFin? k n = some ⟨n, h⟩ := by simp [toFin?, h]

theorem toFin?_ge {k n : Nat} (h : k ≤ n) : toFin? k n = none := by simp [toFin?]; omega

@[simp] theorem toFin?_val {k : Nat} (i : Fin k) : toFin? k i.val = some i := by simp [toFin?]

/-- The octet of an index reads back as the index. -/
theorem octet_fin {k : Nat} (i : Fin k) (h : k ≤ 256) : (octet i.val).toNat = i.val :=
  octet_toNat (by have := i.isLt; omega)

/-! ### Saturating counters -/

/-- A counter below its maximum rises by one. -/
theorem satInc_below {w : Nat} {c : BitVec w} (h : c ≠ BitVec.allOnes w) : satInc c = c + 1 := by
  simp [satInc, h]

/-- At its maximum it stays. -/
theorem satInc_full {w : Nat} : satInc (BitVec.allOnes w) = BitVec.allOnes w := by simp [satInc]

end Sys2Proof.Machine
end

