-- ==== Sys2Proof/Laws/PerInstr.lean ====
section
/-! SUPPORT. Per command: which kind of request, if any, the command takes (R197). -/

namespace Sys2Proof.Laws.RequestKind

open Sys2Proof.Machine

/-- The kind code of the request a command takes. -/
def kindOf : Instr → Option Octet
  | .svcSet => some 0x10
  | .svcDrop => some 0x11
  | .svcRead => some 0x12
  | .planEdit => some 0x20
  | .planCopy => some 0x21
  | .planCommit => some 0x22
  | .planWithdraw => some 0x23
  | .planRead => some 0x24
  | .portSet => some 0x30
  | .portRenegotiate => some 0x31
  | .portRead => some 0x32
  | .outputRead => some 0x38
  | .directoryRead => some 0x39
  | .objOpen => some 0x40
  | .objLoad => some 0x41
  | .objClose => some 0x42
  | .objDrop => some 0x43
  | .objRead => some 0x44
  | .storeStatus => some 0x45
  | .storeClear => some 0x46
  | .carAdd => some 0x50
  | .carRemove => some 0x51
  | .carClear => some 0x52
  | .carResume => some 0x53
  | .carRead => some 0x54
  | .tplErase => some 0x60
  | .tplWrite => some 0x61
  | .tplLock => some 0x62
  | .tplUnlock => some 0x63
  | .tplRead => some 0x64
  | .trigSet => some 0x68
  | .trigRead => some 0x69
  | .cueSet => some 0x6A
  | .cueRead => some 0x6B
  | .alertRaise => some 0x70
  | .alertClear => some 0x71
  | .alertList => some 0x72
  | .reportSet => some 0x78
  | .pendingRead => some 0x79
  | .status => some 0x7A
  | .linkRead => some 0x7B
  | .restart => some 0x7C
  | _ => none

/-- Requests of at most one kind are taken by this command, unless it is UNKNOWN_KIND (R187). -/
def Statement (i : Instr) : Prop :=
  i ≠ .unknownKind → ∀ k : Octet, commandOfKind k = i → kindOf i = some k

theorem commandOfKind_cases :
    ∀ n : Fin 256, commandOfKind (octet n.val) = .unknownKind ∨
      kindOf (commandOfKind (octet n.val)) = some (octet n.val) := by
  decide +kernel

theorem statement_holds (i : Instr) : Statement i := by
  intro hi k hk
  have h := commandOfKind_cases ⟨k.toNat, k.isLt⟩
  have e : octet k.toNat = k := by simp [octet]
  simp only [e, hk] at h
  exact h.resolve_left hi

theorem powerOn (straps : BitVec 2) : Statement (.powerOn straps) := statement_holds _
theorem hardReset (straps : BitVec 2) : Statement (.hardReset straps) := statement_holds _
theorem startingEnd : Statement .startingEnd := statement_holds _
theorem messageReceived (octets : List LineOctet) : Statement (.messageReceived octets) := statement_holds _
theorem unknownKind : Statement .unknownKind := statement_holds _
theorem transmitterFree : Statement .transmitterFree := statement_holds _
theorem svcSet : Statement .svcSet := statement_holds _
theorem svcDrop : Statement .svcDrop := statement_holds _
theorem svcRead : Statement .svcRead := statement_holds _
theorem planEdit : Statement .planEdit := statement_holds _
theorem planCopy : Statement .planCopy := statement_holds _
theorem planCommit : Statement .planCommit := statement_holds _
theorem planWithdraw : Statement .planWithdraw := statement_holds _
theorem planRead : Statement .planRead := statement_holds _
theorem portSet : Statement .portSet := statement_holds _
theorem portRenegotiate : Statement .portRenegotiate := statement_holds _
theorem portRead : Statement .portRead := statement_holds _
theorem outputRead : Statement .outputRead := statement_holds _
theorem directoryRead : Statement .directoryRead := statement_holds _
theorem objOpen : Statement .objOpen := statement_holds _
theorem objLoad : Statement .objLoad := statement_holds _
theorem objClose : Statement .objClose := statement_holds _
theorem objDrop : Statement .objDrop := statement_holds _
theorem objRead : Statement .objRead := statement_holds _
theorem storeStatus : Statement .storeStatus := statement_holds _
theorem storeClear : Statement .storeClear := statement_holds _
theorem carAdd : Statement .carAdd := statement_holds _
theorem carRemove : Statement .carRemove := statement_holds _
theorem carClear : Statement .carClear := statement_holds _
theorem carResume : Statement .carResume := statement_holds _
theorem carRead : Statement .carRead := statement_holds _
theorem tplErase : Statement .tplErase := statement_holds _
theorem tplWrite : Statement .tplWrite := statement_holds _
theorem tplLock : Statement .tplLock := statement_holds _
theorem tplUnlock : Statement .tplUnlock := statement_holds _
theorem tplRead : Statement .tplRead := statement_holds _
theorem trigSet : Statement .trigSet := statement_holds _
theorem trigRead : Statement .trigRead := statement_holds _
theorem cueSet : Statement .cueSet := statement_holds _
theorem cueRead : Statement .cueRead := statement_holds _
theorem alertRaise : Statement .alertRaise := statement_holds _
theorem alertClear : Statement .alertClear := statement_holds _
theorem alertList : Statement .alertList := statement_holds _
theorem reportSet : Statement .reportSet := statement_holds _
theorem pendingRead : Statement .pendingRead := statement_holds _
theorem status : Statement .status := statement_holds _
theorem linkRead : Statement .linkRead := statement_holds _
theorem restart : Statement .restart := statement_holds _
theorem restartAfterAssembly : Statement .restartAfterAssembly := statement_holds _
theorem framePull : Statement .framePull := statement_holds _
theorem streamTake : Statement .streamTake := statement_holds _
theorem cellRequest : Statement .cellRequest := statement_holds _
theorem alertCellRequest : Statement .alertCellRequest := statement_holds _
theorem frameAssemblyComplete : Statement .frameAssemblyComplete := statement_holds _
theorem outputTransmissionEnd : Statement .outputTransmissionEnd := statement_holds _
theorem stallTimerExpiry : Statement .stallTimerExpiry := statement_holds _
theorem offerWordReceived (port : Fin 8) (octets : Octets) : Statement (.offerWordReceived port octets) := statement_holds _
theorem offerWordPeriod (port : Fin 8) : Statement (.offerWordPeriod port) := statement_holds _
theorem listenTimerExpiry (port : Fin 8) : Statement (.listenTimerExpiry port) := statement_holds _
theorem linkTimerExpiry (port : Fin 8) : Statement (.linkTimerExpiry port) := statement_holds _
theorem contributionFrame (port : Fin 8) (octets : Octets) : Statement (.contributionFrame port octets) := statement_holds _
theorem triggerRawChange (line : Fin 4) (level : PinLevel) : Statement (.triggerRawChange line level) := statement_holds _
theorem filterTimerExpiry (line : Fin 4) : Statement (.filterTimerExpiry line) := statement_holds _
theorem alertTimerExpiry (number : Octet) : Statement (.alertTimerExpiry number) := statement_holds _
theorem eraseEnd : Statement .eraseEnd := statement_holds _
theorem writeEnd : Statement .writeEnd := statement_holds _
theorem bitFault (page : Fin 1024) (group : Fin 32) (bits : List Nat) : Statement (.bitFault page group bits) := statement_holds _
theorem lossOfPower : Statement .lossOfPower := statement_holds _

end Sys2Proof.Laws.RequestKind
end

