-- ==== Sys2Proof/Laws/State.lean ====
section
/-! SUPPORT. One lemma per field per setter: what a setter writes and what it leaves. -/

namespace Sys2Proof.Machine

variable (s : State)

/-! withPowered -/

@[simp] theorem State.withPowered_powered (x : Bool) : (s.withPowered x).powered = x := rfl
@[simp] theorem State.withPowered_control (x : Bool) : (s.withPowered x).control = s.control := rfl
@[simp] theorem State.withPowered_services (x : Bool) : (s.withPowered x).services = s.services := rfl
@[simp] theorem State.withPowered_plan (x : Bool) : (s.withPowered x).plan = s.plan := rfl
@[simp] theorem State.withPowered_ports (x : Bool) : (s.withPowered x).ports = s.ports := rfl
@[simp] theorem State.withPowered_cues (x : Bool) : (s.withPowered x).cues = s.cues := rfl
@[simp] theorem State.withPowered_lines (x : Bool) : (s.withPowered x).lines = s.lines := rfl
@[simp] theorem State.withPowered_templates (x : Bool) : (s.withPowered x).templates = s.templates := rfl
@[simp] theorem State.withPowered_alerts (x : Bool) : (s.withPowered x).alerts = s.alerts := rfl
@[simp] theorem State.withPowered_store (x : Bool) : (s.withPowered x).store = s.store := rfl
@[simp] theorem State.withPowered_carousels (x : Bool) : (s.withPowered x).carousels = s.carousels := rfl
@[simp] theorem State.withPowered_directory (x : Bool) : (s.withPowered x).directory = s.directory := rfl
@[simp] theorem State.withPowered_output (x : Bool) : (s.withPowered x).output = s.output := rfl
@[simp] theorem State.withPowered_pending (x : Bool) : (s.withPowered x).pending = s.pending := rfl

/-! withControl -/

@[simp] theorem State.withControl_powered (x : Control) : (s.withControl x).powered = s.powered := rfl
@[simp] theorem State.withControl_control (x : Control) : (s.withControl x).control = x := rfl
@[simp] theorem State.withControl_services (x : Control) : (s.withControl x).services = s.services := rfl
@[simp] theorem State.withControl_plan (x : Control) : (s.withControl x).plan = s.plan := rfl
@[simp] theorem State.withControl_ports (x : Control) : (s.withControl x).ports = s.ports := rfl
@[simp] theorem State.withControl_cues (x : Control) : (s.withControl x).cues = s.cues := rfl
@[simp] theorem State.withControl_lines (x : Control) : (s.withControl x).lines = s.lines := rfl
@[simp] theorem State.withControl_templates (x : Control) : (s.withControl x).templates = s.templates := rfl
@[simp] theorem State.withControl_alerts (x : Control) : (s.withControl x).alerts = s.alerts := rfl
@[simp] theorem State.withControl_store (x : Control) : (s.withControl x).store = s.store := rfl
@[simp] theorem State.withControl_carousels (x : Control) : (s.withControl x).carousels = s.carousels := rfl
@[simp] theorem State.withControl_directory (x : Control) : (s.withControl x).directory = s.directory := rfl
@[simp] theorem State.withControl_output (x : Control) : (s.withControl x).output = s.output := rfl
@[simp] theorem State.withControl_pending (x : Control) : (s.withControl x).pending = s.pending := rfl

/-! withServices -/

@[simp] theorem State.withServices_powered (x : ServiceTable) : (s.withServices x).powered = s.powered := rfl
@[simp] theorem State.withServices_control (x : ServiceTable) : (s.withServices x).control = s.control := rfl
@[simp] theorem State.withServices_services (x : ServiceTable) : (s.withServices x).services = x := rfl
@[simp] theorem State.withServices_plan (x : ServiceTable) : (s.withServices x).plan = s.plan := rfl
@[simp] theorem State.withServices_ports (x : ServiceTable) : (s.withServices x).ports = s.ports := rfl
@[simp] theorem State.withServices_cues (x : ServiceTable) : (s.withServices x).cues = s.cues := rfl
@[simp] theorem State.withServices_lines (x : ServiceTable) : (s.withServices x).lines = s.lines := rfl
@[simp] theorem State.withServices_templates (x : ServiceTable) : (s.withServices x).templates = s.templates := rfl
@[simp] theorem State.withServices_alerts (x : ServiceTable) : (s.withServices x).alerts = s.alerts := rfl
@[simp] theorem State.withServices_store (x : ServiceTable) : (s.withServices x).store = s.store := rfl
@[simp] theorem State.withServices_carousels (x : ServiceTable) : (s.withServices x).carousels = s.carousels := rfl
@[simp] theorem State.withServices_directory (x : ServiceTable) : (s.withServices x).directory = s.directory := rfl
@[simp] theorem State.withServices_output (x : ServiceTable) : (s.withServices x).output = s.output := rfl
@[simp] theorem State.withServices_pending (x : ServiceTable) : (s.withServices x).pending = s.pending := rfl

/-! withPlan -/

@[simp] theorem State.withPlan_powered (x : Plan) : (s.withPlan x).powered = s.powered := rfl
@[simp] theorem State.withPlan_control (x : Plan) : (s.withPlan x).control = s.control := rfl
@[simp] theorem State.withPlan_services (x : Plan) : (s.withPlan x).services = s.services := rfl
@[simp] theorem State.withPlan_plan (x : Plan) : (s.withPlan x).plan = x := rfl
@[simp] theorem State.withPlan_ports (x : Plan) : (s.withPlan x).ports = s.ports := rfl
@[simp] theorem State.withPlan_cues (x : Plan) : (s.withPlan x).cues = s.cues := rfl
@[simp] theorem State.withPlan_lines (x : Plan) : (s.withPlan x).lines = s.lines := rfl
@[simp] theorem State.withPlan_templates (x : Plan) : (s.withPlan x).templates = s.templates := rfl
@[simp] theorem State.withPlan_alerts (x : Plan) : (s.withPlan x).alerts = s.alerts := rfl
@[simp] theorem State.withPlan_store (x : Plan) : (s.withPlan x).store = s.store := rfl
@[simp] theorem State.withPlan_carousels (x : Plan) : (s.withPlan x).carousels = s.carousels := rfl
@[simp] theorem State.withPlan_directory (x : Plan) : (s.withPlan x).directory = s.directory := rfl
@[simp] theorem State.withPlan_output (x : Plan) : (s.withPlan x).output = s.output := rfl
@[simp] theorem State.withPlan_pending (x : Plan) : (s.withPlan x).pending = s.pending := rfl

/-! withPorts -/

@[simp] theorem State.withPorts_powered (x : Vector Port 8) : (s.withPorts x).powered = s.powered := rfl
@[simp] theorem State.withPorts_control (x : Vector Port 8) : (s.withPorts x).control = s.control := rfl
@[simp] theorem State.withPorts_services (x : Vector Port 8) : (s.withPorts x).services = s.services := rfl
@[simp] theorem State.withPorts_plan (x : Vector Port 8) : (s.withPorts x).plan = s.plan := rfl
@[simp] theorem State.withPorts_ports (x : Vector Port 8) : (s.withPorts x).ports = x := rfl
@[simp] theorem State.withPorts_cues (x : Vector Port 8) : (s.withPorts x).cues = s.cues := rfl
@[simp] theorem State.withPorts_lines (x : Vector Port 8) : (s.withPorts x).lines = s.lines := rfl
@[simp] theorem State.withPorts_templates (x : Vector Port 8) : (s.withPorts x).templates = s.templates := rfl
@[simp] theorem State.withPorts_alerts (x : Vector Port 8) : (s.withPorts x).alerts = s.alerts := rfl
@[simp] theorem State.withPorts_store (x : Vector Port 8) : (s.withPorts x).store = s.store := rfl
@[simp] theorem State.withPorts_carousels (x : Vector Port 8) : (s.withPorts x).carousels = s.carousels := rfl
@[simp] theorem State.withPorts_directory (x : Vector Port 8) : (s.withPorts x).directory = s.directory := rfl
@[simp] theorem State.withPorts_output (x : Vector Port 8) : (s.withPorts x).output = s.output := rfl
@[simp] theorem State.withPorts_pending (x : Vector Port 8) : (s.withPorts x).pending = s.pending := rfl

/-! withCues -/

@[simp] theorem State.withCues_powered (x : Vector CueFilter 4) : (s.withCues x).powered = s.powered := rfl
@[simp] theorem State.withCues_control (x : Vector CueFilter 4) : (s.withCues x).control = s.control := rfl
@[simp] theorem State.withCues_services (x : Vector CueFilter 4) : (s.withCues x).services = s.services := rfl
@[simp] theorem State.withCues_plan (x : Vector CueFilter 4) : (s.withCues x).plan = s.plan := rfl
@[simp] theorem State.withCues_ports (x : Vector CueFilter 4) : (s.withCues x).ports = s.ports := rfl
@[simp] theorem State.withCues_cues (x : Vector CueFilter 4) : (s.withCues x).cues = x := rfl
@[simp] theorem State.withCues_lines (x : Vector CueFilter 4) : (s.withCues x).lines = s.lines := rfl
@[simp] theorem State.withCues_templates (x : Vector CueFilter 4) : (s.withCues x).templates = s.templates := rfl
@[simp] theorem State.withCues_alerts (x : Vector CueFilter 4) : (s.withCues x).alerts = s.alerts := rfl
@[simp] theorem State.withCues_store (x : Vector CueFilter 4) : (s.withCues x).store = s.store := rfl
@[simp] theorem State.withCues_carousels (x : Vector CueFilter 4) : (s.withCues x).carousels = s.carousels := rfl
@[simp] theorem State.withCues_directory (x : Vector CueFilter 4) : (s.withCues x).directory = s.directory := rfl
@[simp] theorem State.withCues_output (x : Vector CueFilter 4) : (s.withCues x).output = s.output := rfl
@[simp] theorem State.withCues_pending (x : Vector CueFilter 4) : (s.withCues x).pending = s.pending := rfl

/-! withLines -/

@[simp] theorem State.withLines_powered (x : Vector TriggerLine 4) : (s.withLines x).powered = s.powered := rfl
@[simp] theorem State.withLines_control (x : Vector TriggerLine 4) : (s.withLines x).control = s.control := rfl
@[simp] theorem State.withLines_services (x : Vector TriggerLine 4) : (s.withLines x).services = s.services := rfl
@[simp] theorem State.withLines_plan (x : Vector TriggerLine 4) : (s.withLines x).plan = s.plan := rfl
@[simp] theorem State.withLines_ports (x : Vector TriggerLine 4) : (s.withLines x).ports = s.ports := rfl
@[simp] theorem State.withLines_cues (x : Vector TriggerLine 4) : (s.withLines x).cues = s.cues := rfl
@[simp] theorem State.withLines_lines (x : Vector TriggerLine 4) : (s.withLines x).lines = x := rfl
@[simp] theorem State.withLines_templates (x : Vector TriggerLine 4) : (s.withLines x).templates = s.templates := rfl
@[simp] theorem State.withLines_alerts (x : Vector TriggerLine 4) : (s.withLines x).alerts = s.alerts := rfl
@[simp] theorem State.withLines_store (x : Vector TriggerLine 4) : (s.withLines x).store = s.store := rfl
@[simp] theorem State.withLines_carousels (x : Vector TriggerLine 4) : (s.withLines x).carousels = s.carousels := rfl
@[simp] theorem State.withLines_directory (x : Vector TriggerLine 4) : (s.withLines x).directory = s.directory := rfl
@[simp] theorem State.withLines_output (x : Vector TriggerLine 4) : (s.withLines x).output = s.output := rfl
@[simp] theorem State.withLines_pending (x : Vector TriggerLine 4) : (s.withLines x).pending = s.pending := rfl

/-! withTemplates -/

@[simp] theorem State.withTemplates_powered (x : TemplateStore) : (s.withTemplates x).powered = s.powered := rfl
@[simp] theorem State.withTemplates_control (x : TemplateStore) : (s.withTemplates x).control = s.control := rfl
@[simp] theorem State.withTemplates_services (x : TemplateStore) : (s.withTemplates x).services = s.services := rfl
@[simp] theorem State.withTemplates_plan (x : TemplateStore) : (s.withTemplates x).plan = s.plan := rfl
@[simp] theorem State.withTemplates_ports (x : TemplateStore) : (s.withTemplates x).ports = s.ports := rfl
@[simp] theorem State.withTemplates_cues (x : TemplateStore) : (s.withTemplates x).cues = s.cues := rfl
@[simp] theorem State.withTemplates_lines (x : TemplateStore) : (s.withTemplates x).lines = s.lines := rfl
@[simp] theorem State.withTemplates_templates (x : TemplateStore) : (s.withTemplates x).templates = x := rfl
@[simp] theorem State.withTemplates_alerts (x : TemplateStore) : (s.withTemplates x).alerts = s.alerts := rfl
@[simp] theorem State.withTemplates_store (x : TemplateStore) : (s.withTemplates x).store = s.store := rfl
@[simp] theorem State.withTemplates_carousels (x : TemplateStore) : (s.withTemplates x).carousels = s.carousels := rfl
@[simp] theorem State.withTemplates_directory (x : TemplateStore) : (s.withTemplates x).directory = s.directory := rfl
@[simp] theorem State.withTemplates_output (x : TemplateStore) : (s.withTemplates x).output = s.output := rfl
@[simp] theorem State.withTemplates_pending (x : TemplateStore) : (s.withTemplates x).pending = s.pending := rfl

/-! withAlerts -/

@[simp] theorem State.withAlerts_powered (x : AlertUnit) : (s.withAlerts x).powered = s.powered := rfl
@[simp] theorem State.withAlerts_control (x : AlertUnit) : (s.withAlerts x).control = s.control := rfl
@[simp] theorem State.withAlerts_services (x : AlertUnit) : (s.withAlerts x).services = s.services := rfl
@[simp] theorem State.withAlerts_plan (x : AlertUnit) : (s.withAlerts x).plan = s.plan := rfl
@[simp] theorem State.withAlerts_ports (x : AlertUnit) : (s.withAlerts x).ports = s.ports := rfl
@[simp] theorem State.withAlerts_cues (x : AlertUnit) : (s.withAlerts x).cues = s.cues := rfl
@[simp] theorem State.withAlerts_lines (x : AlertUnit) : (s.withAlerts x).lines = s.lines := rfl
@[simp] theorem State.withAlerts_templates (x : AlertUnit) : (s.withAlerts x).templates = s.templates := rfl
@[simp] theorem State.withAlerts_alerts (x : AlertUnit) : (s.withAlerts x).alerts = x := rfl
@[simp] theorem State.withAlerts_store (x : AlertUnit) : (s.withAlerts x).store = s.store := rfl
@[simp] theorem State.withAlerts_carousels (x : AlertUnit) : (s.withAlerts x).carousels = s.carousels := rfl
@[simp] theorem State.withAlerts_directory (x : AlertUnit) : (s.withAlerts x).directory = s.directory := rfl
@[simp] theorem State.withAlerts_output (x : AlertUnit) : (s.withAlerts x).output = s.output := rfl
@[simp] theorem State.withAlerts_pending (x : AlertUnit) : (s.withAlerts x).pending = s.pending := rfl

/-! withStore -/

@[simp] theorem State.withStore_powered (x : ObjectStore) : (s.withStore x).powered = s.powered := rfl
@[simp] theorem State.withStore_control (x : ObjectStore) : (s.withStore x).control = s.control := rfl
@[simp] theorem State.withStore_services (x : ObjectStore) : (s.withStore x).services = s.services := rfl
@[simp] theorem State.withStore_plan (x : ObjectStore) : (s.withStore x).plan = s.plan := rfl
@[simp] theorem State.withStore_ports (x : ObjectStore) : (s.withStore x).ports = s.ports := rfl
@[simp] theorem State.withStore_cues (x : ObjectStore) : (s.withStore x).cues = s.cues := rfl
@[simp] theorem State.withStore_lines (x : ObjectStore) : (s.withStore x).lines = s.lines := rfl
@[simp] theorem State.withStore_templates (x : ObjectStore) : (s.withStore x).templates = s.templates := rfl
@[simp] theorem State.withStore_alerts (x : ObjectStore) : (s.withStore x).alerts = s.alerts := rfl
@[simp] theorem State.withStore_store (x : ObjectStore) : (s.withStore x).store = x := rfl
@[simp] theorem State.withStore_carousels (x : ObjectStore) : (s.withStore x).carousels = s.carousels := rfl
@[simp] theorem State.withStore_directory (x : ObjectStore) : (s.withStore x).directory = s.directory := rfl
@[simp] theorem State.withStore_output (x : ObjectStore) : (s.withStore x).output = s.output := rfl
@[simp] theorem State.withStore_pending (x : ObjectStore) : (s.withStore x).pending = s.pending := rfl

/-! withCarousels -/

@[simp] theorem State.withCarousels_powered (x : Vector Carousel 32) : (s.withCarousels x).powered = s.powered := rfl
@[simp] theorem State.withCarousels_control (x : Vector Carousel 32) : (s.withCarousels x).control = s.control := rfl
@[simp] theorem State.withCarousels_services (x : Vector Carousel 32) : (s.withCarousels x).services = s.services := rfl
@[simp] theorem State.withCarousels_plan (x : Vector Carousel 32) : (s.withCarousels x).plan = s.plan := rfl
@[simp] theorem State.withCarousels_ports (x : Vector Carousel 32) : (s.withCarousels x).ports = s.ports := rfl
@[simp] theorem State.withCarousels_cues (x : Vector Carousel 32) : (s.withCarousels x).cues = s.cues := rfl
@[simp] theorem State.withCarousels_lines (x : Vector Carousel 32) : (s.withCarousels x).lines = s.lines := rfl
@[simp] theorem State.withCarousels_templates (x : Vector Carousel 32) : (s.withCarousels x).templates = s.templates := rfl
@[simp] theorem State.withCarousels_alerts (x : Vector Carousel 32) : (s.withCarousels x).alerts = s.alerts := rfl
@[simp] theorem State.withCarousels_store (x : Vector Carousel 32) : (s.withCarousels x).store = s.store := rfl
@[simp] theorem State.withCarousels_carousels (x : Vector Carousel 32) : (s.withCarousels x).carousels = x := rfl
@[simp] theorem State.withCarousels_directory (x : Vector Carousel 32) : (s.withCarousels x).directory = s.directory := rfl
@[simp] theorem State.withCarousels_output (x : Vector Carousel 32) : (s.withCarousels x).output = s.output := rfl
@[simp] theorem State.withCarousels_pending (x : Vector Carousel 32) : (s.withCarousels x).pending = s.pending := rfl

/-! withDirectory -/

@[simp] theorem State.withDirectory_powered (x : Directory) : (s.withDirectory x).powered = s.powered := rfl
@[simp] theorem State.withDirectory_control (x : Directory) : (s.withDirectory x).control = s.control := rfl
@[simp] theorem State.withDirectory_services (x : Directory) : (s.withDirectory x).services = s.services := rfl
@[simp] theorem State.withDirectory_plan (x : Directory) : (s.withDirectory x).plan = s.plan := rfl
@[simp] theorem State.withDirectory_ports (x : Directory) : (s.withDirectory x).ports = s.ports := rfl
@[simp] theorem State.withDirectory_cues (x : Directory) : (s.withDirectory x).cues = s.cues := rfl
@[simp] theorem State.withDirectory_lines (x : Directory) : (s.withDirectory x).lines = s.lines := rfl
@[simp] theorem State.withDirectory_templates (x : Directory) : (s.withDirectory x).templates = s.templates := rfl
@[simp] theorem State.withDirectory_alerts (x : Directory) : (s.withDirectory x).alerts = s.alerts := rfl
@[simp] theorem State.withDirectory_store (x : Directory) : (s.withDirectory x).store = s.store := rfl
@[simp] theorem State.withDirectory_carousels (x : Directory) : (s.withDirectory x).carousels = s.carousels := rfl
@[simp] theorem State.withDirectory_directory (x : Directory) : (s.withDirectory x).directory = x := rfl
@[simp] theorem State.withDirectory_output (x : Directory) : (s.withDirectory x).output = s.output := rfl
@[simp] theorem State.withDirectory_pending (x : Directory) : (s.withDirectory x).pending = s.pending := rfl

/-! withOutput -/

@[simp] theorem State.withOutput_powered (x : Output) : (s.withOutput x).powered = s.powered := rfl
@[simp] theorem State.withOutput_control (x : Output) : (s.withOutput x).control = s.control := rfl
@[simp] theorem State.withOutput_services (x : Output) : (s.withOutput x).services = s.services := rfl
@[simp] theorem State.withOutput_plan (x : Output) : (s.withOutput x).plan = s.plan := rfl
@[simp] theorem State.withOutput_ports (x : Output) : (s.withOutput x).ports = s.ports := rfl
@[simp] theorem State.withOutput_cues (x : Output) : (s.withOutput x).cues = s.cues := rfl
@[simp] theorem State.withOutput_lines (x : Output) : (s.withOutput x).lines = s.lines := rfl
@[simp] theorem State.withOutput_templates (x : Output) : (s.withOutput x).templates = s.templates := rfl
@[simp] theorem State.withOutput_alerts (x : Output) : (s.withOutput x).alerts = s.alerts := rfl
@[simp] theorem State.withOutput_store (x : Output) : (s.withOutput x).store = s.store := rfl
@[simp] theorem State.withOutput_carousels (x : Output) : (s.withOutput x).carousels = s.carousels := rfl
@[simp] theorem State.withOutput_directory (x : Output) : (s.withOutput x).directory = s.directory := rfl
@[simp] theorem State.withOutput_output (x : Output) : (s.withOutput x).output = x := rfl
@[simp] theorem State.withOutput_pending (x : Output) : (s.withOutput x).pending = s.pending := rfl

/-! withPending -/

@[simp] theorem State.withPending_powered (x : List Instr) : (s.withPending x).powered = s.powered := rfl
@[simp] theorem State.withPending_control (x : List Instr) : (s.withPending x).control = s.control := rfl
@[simp] theorem State.withPending_services (x : List Instr) : (s.withPending x).services = s.services := rfl
@[simp] theorem State.withPending_plan (x : List Instr) : (s.withPending x).plan = s.plan := rfl
@[simp] theorem State.withPending_ports (x : List Instr) : (s.withPending x).ports = s.ports := rfl
@[simp] theorem State.withPending_cues (x : List Instr) : (s.withPending x).cues = s.cues := rfl
@[simp] theorem State.withPending_lines (x : List Instr) : (s.withPending x).lines = s.lines := rfl
@[simp] theorem State.withPending_templates (x : List Instr) : (s.withPending x).templates = s.templates := rfl
@[simp] theorem State.withPending_alerts (x : List Instr) : (s.withPending x).alerts = s.alerts := rfl
@[simp] theorem State.withPending_store (x : List Instr) : (s.withPending x).store = s.store := rfl
@[simp] theorem State.withPending_carousels (x : List Instr) : (s.withPending x).carousels = s.carousels := rfl
@[simp] theorem State.withPending_directory (x : List Instr) : (s.withPending x).directory = s.directory := rfl
@[simp] theorem State.withPending_output (x : List Instr) : (s.withPending x).output = s.output := rfl
@[simp] theorem State.withPending_pending (x : List Instr) : (s.withPending x).pending = x := rfl

/-! A setter given the field itself, and the last of two setters -/

@[simp] theorem State.withPowered_self : s.withPowered s.powered = s := rfl
@[simp] theorem State.withPowered_twice (x y : Bool) : (s.withPowered x).withPowered y = s.withPowered y := rfl
@[simp] theorem State.withControl_self : s.withControl s.control = s := rfl
@[simp] theorem State.withControl_twice (x y : Control) : (s.withControl x).withControl y = s.withControl y := rfl
@[simp] theorem State.withServices_self : s.withServices s.services = s := rfl
@[simp] theorem State.withServices_twice (x y : ServiceTable) : (s.withServices x).withServices y = s.withServices y := rfl
@[simp] theorem State.withPlan_self : s.withPlan s.plan = s := rfl
@[simp] theorem State.withPlan_twice (x y : Plan) : (s.withPlan x).withPlan y = s.withPlan y := rfl
@[simp] theorem State.withPorts_self : s.withPorts s.ports = s := rfl
@[simp] theorem State.withPorts_twice (x y : Vector Port 8) : (s.withPorts x).withPorts y = s.withPorts y := rfl
@[simp] theorem State.withCues_self : s.withCues s.cues = s := rfl
@[simp] theorem State.withCues_twice (x y : Vector CueFilter 4) : (s.withCues x).withCues y = s.withCues y := rfl
@[simp] theorem State.withLines_self : s.withLines s.lines = s := rfl
@[simp] theorem State.withLines_twice (x y : Vector TriggerLine 4) : (s.withLines x).withLines y = s.withLines y := rfl
@[simp] theorem State.withTemplates_self : s.withTemplates s.templates = s := rfl
@[simp] theorem State.withTemplates_twice (x y : TemplateStore) : (s.withTemplates x).withTemplates y = s.withTemplates y := rfl
@[simp] theorem State.withAlerts_self : s.withAlerts s.alerts = s := rfl
@[simp] theorem State.withAlerts_twice (x y : AlertUnit) : (s.withAlerts x).withAlerts y = s.withAlerts y := rfl
@[simp] theorem State.withStore_self : s.withStore s.store = s := rfl
@[simp] theorem State.withStore_twice (x y : ObjectStore) : (s.withStore x).withStore y = s.withStore y := rfl
@[simp] theorem State.withCarousels_self : s.withCarousels s.carousels = s := rfl
@[simp] theorem State.withCarousels_twice (x y : Vector Carousel 32) : (s.withCarousels x).withCarousels y = s.withCarousels y := rfl
@[simp] theorem State.withDirectory_self : s.withDirectory s.directory = s := rfl
@[simp] theorem State.withDirectory_twice (x y : Directory) : (s.withDirectory x).withDirectory y = s.withDirectory y := rfl
@[simp] theorem State.withOutput_self : s.withOutput s.output = s := rfl
@[simp] theorem State.withOutput_twice (x y : Output) : (s.withOutput x).withOutput y = s.withOutput y := rfl
@[simp] theorem State.withPending_self : s.withPending s.pending = s := rfl
@[simp] theorem State.withPending_twice (x y : List Instr) : (s.withPending x).withPending y = s.withPending y := rfl

end Sys2Proof.Machine
end

