-- ==== Sys2Proof/Laws/Shared.lean ====
section
/-! SUPPORT. What the shared operations can do: raising, choosing, answering, events and requests. -/

namespace Sys2Proof.Machine

/-! ### They change the control unit only -/

theorem State.raise_eq (s : State) (src : ReportSource) (d : Octets) :
    s.raise src d = s.withControl (s.control.raise src d) := rfl

theorem State.choose_eq (s : State) : s.choose = s.withControl s.control.choose := rfl

theorem State.answer_eq (s : State) (r : Request) (a : Answer) :
    s.answer r a
      = s.withControl (s.control.place { kind := r.kind, tag := r.tag, code := a.code, result := a.result }) :=
  rfl

/-- Raising several events writes the control unit and nothing else. -/
theorem State.raiseAll_eq (l : Events) : ∀ s : State, ∃ c, s.raiseAll l = s.withControl c := by
  induction l with
  | nil => intro s; exact ⟨s.control, rfl⟩
  | cons e rest ih =>
    intro s
    obtain ⟨c, hc⟩ := ih (s.raise e.1 e.2)
    exact ⟨c, by rw [State.raiseAll, hc]; rfl⟩

@[simp] theorem State.raiseAll_nil (s : State) : s.raiseAll [] = s := rfl

@[simp] theorem State.raiseAll_cons (s : State) (src : ReportSource) (d : Octets) (l : Events) :
    s.raiseAll ((src, d) :: l) = (s.raise src d).raiseAll l := rfl

/-- A property of a state that does not look at the control unit. -/
def ControlFree (P : State → Prop) : Prop := ∀ s c, P s → P (s.withControl c)

theorem ControlFree.raise {P : State → Prop} (h : ControlFree P) {s : State} (src : ReportSource)
    (d : Octets) (hs : P s) : P (s.raise src d) := h s _ hs

theorem ControlFree.raiseAll {P : State → Prop} (h : ControlFree P) {s : State} (l : Events)
    (hs : P s) : P (s.raiseAll l) := by
  obtain ⟨c, hc⟩ := State.raiseAll_eq l s
  rw [hc]; exact h s c hs

theorem ControlFree.choose {P : State → Prop} (h : ControlFree P) {s : State} (hs : P s) :
    P s.choose := h s _ hs

theorem ControlFree.answer {P : State → Prop} (h : ControlFree P) {s : State} (r : Request)
    (a : Answer) (hs : P s) : P (s.answer r a) := h s _ hs

/-! ### Events -/

theorem event_off {f : State → State} {s : State} (h : s.powered = false) : event f s = .next s := by
  simp [event, h]

theorem event_on {f : State → State} {s : State} (h : s.powered = true) :
    event f s = .next (f s).choose := by
  simp [event, h]

/-- Everything an event can do. -/
theorem event_next {f : State → State} {s t : State} (h : event f s = .next t) :
    (s.powered = false ∧ t = s) ∨ (s.powered = true ∧ t = (f s).choose) := by
  cases hp : s.powered with
  | false => rw [event_off hp] at h; cases h; exact .inl ⟨rfl, rfl⟩
  | true => rw [event_on hp] at h; cases h; exact .inr ⟨rfl, rfl⟩

/-- An event keeps what its effect and the transmitter's choice keep. -/
theorem event_keeps {P : State → Prop} {f : State → State} {s t : State}
    (choose : ∀ u, P u → P u.choose) (effect : s.powered = true → P s → P (f s)) (hs : P s)
    (h : event f s = .next t) : P t := by
  rcases event_next h with ⟨_, rfl⟩ | ⟨hp, rfl⟩
  · exact hs
  · exact choose _ (effect hp hs)

/-! ### Requests -/

/-- What a request's command does when it takes r. -/
theorem request_taking {s : State} {r : Request} {rest : List Request} {c : Instr}
    {owner : Octets → State → State × Answer} (h : Taking s r rest) (kind : commandOfKind r.kind = c)
    (fits : bodyFits r.kind r.body.length = true) :
    request c owner s
      = (owner r.body (s.taken rest)).1.answer r (owner r.body (s.taken rest)).2 := by
  have htake : s.control.mayTake = true := by
    simp [Control.mayTake, h.free]
    intro x hx; exact h.begun x hx
  unfold request Control.takes
  simp [h.oldest, htake, kind, serve, h.ready, fits, State.taken]

/-- A request carried out, as the command's next state: the owner's work, the reply placed, and the
transmitter's choice. -/
theorem exec_request {s : State} {r : Request} {rest : List Request} {c : Instr}
    {owner : Octets → State → State × Answer} (h : Taking s r rest) (kind : commandOfKind r.kind = c)
    (fits : bodyFits r.kind r.body.length = true) {t : State} {code : ReplyCode} {result : Octets}
    (work : owner r.body (s.taken rest) = (t, { code := code, result := result })) :
    event (request c owner) s = .next (t.replied r code result) := by
  rw [event_on h.powered, request_taking h kind fits, work]; rfl

/-- Everything a request's command can do: nothing, a reply of the control unit's own, or the owner's
work and its answer. -/
theorem request_cases (c : Instr) (owner : Octets → State → State × Answer) (s : State) :
    request c owner s = s ∨
      ∃ r rest, s.control.takes c = some (r, rest) ∧
        ((∃ d a, request c owner s = (s.withControl d).answer r a ∧
            (a.code = .busy ∨ a.code = .badForm) ∧ d.replies = rest.replies ∧
            d.requests = rest.requests ∧ d.restarting = rest.restarting) ∨
          request c owner s
            = (owner r.body (s.withControl rest)).1.answer r (owner r.body (s.withControl rest)).2) := by
  unfold request
  cases h : s.control.takes c with
  | none => exact .inl rfl
  | some p =>
    obtain ⟨r, rest⟩ := p
    refine .inr ⟨r, rest, rfl, ?_⟩
    show (∃ d a, serve owner r (s.withControl rest) = _ ∧ _) ∨ serve owner r (s.withControl rest) = _
    unfold serve
    split
    · exact .inl ⟨rest, _, rfl, .inl rfl, rfl, rfl, rfl⟩
    · split
      · exact .inr rfl
      · exact .inl ⟨rest.countFault LinkFaults.countBadForm, _, rfl, .inr rfl, rfl, rfl, rfl⟩

/-- A request's command keeps a property that does not look at the control unit, if its owner does. -/
theorem request_keeps {P : State → Prop} (free : ControlFree P) {c : Instr}
    {owner : Octets → State → State × Answer} {s : State}
    (work : ∀ b u, P u → P (owner b u).1) (hs : P s) : P (request c owner s) := by
  rcases request_cases c owner s with h | ⟨r, rest, _, ⟨d, a, h, _⟩ | h⟩
  · rw [h]; exact hs
  · rw [h]; exact free.answer _ _ (free _ _ hs)
  · rw [h]; exact free.answer _ _ (work _ _ (free _ _ hs))

/-- The same for the command as a whole. -/
theorem exec_request_keeps {P : State → Prop} (free : ControlFree P) {c : Instr}
    {owner : Octets → State → State × Answer} {s t : State}
    (work : ∀ b u, P u → P (owner b u).1) (hs : P s) (h : event (request c owner) s = .next t) : P t :=
  event_keeps (fun _ hu => free.choose hu) (fun _ hu => request_keeps free work hu) hs h

/-! ### The transmitter's choice -/

/-- A transmitter that is sending makes no choice. -/
theorem Control.choose_sending {c : Control} {m : Message} (h : c.transmitter = some m) :
    c.choose = c := by
  unfold Control.choose; rw [h]

/-- The oldest reply goes out first. -/
theorem Control.choose_reply {c : Control} {r : Reply} {rest : List Reply} (h : c.transmitter = none)
    (hr : c.replies = r :: rest) :
    c.choose = { c with replies := rest, transmitter := some r.message } := by
  unfold Control.choose; rw [h, hr]

/-- With no reply waiting, a notice goes out while READY. -/
theorem Control.choose_notice {c : Control} {i : Fin 24} (h : c.transmitter = none)
    (hr : c.replies = []) (hp : c.phase = .ready) (hi : c.noticeSource = some i) :
    c.choose =
      { c with
        transmitter := some (c.reports[i].notice i)
        reports := updateAt c.reports i ReportRecord.clear } := by
  unfold Control.choose; rw [h, hr]; simp only [hp, hi]

theorem Control.choose_idle {c : Control} (h : c.transmitter = none) (hr : c.replies = [])
    (hi : c.phase = .starting ∨ c.noticeSource = none) : c.choose = c := by
  unfold Control.choose; rw [h, hr]
  rcases hi with hi | hi <;> simp only [hi]
  cases c.phase <;> rfl

/-- The choice made twice is the choice made once. -/
theorem Control.choose_idem (c : Control) : c.choose.choose = c.choose := by
  cases ht : c.transmitter with
  | some m => rw [Control.choose_sending ht, Control.choose_sending ht]
  | none =>
    cases hr : c.replies with
    | cons r rest => rw [Control.choose_reply ht hr]; exact Control.choose_sending rfl
    | nil =>
      cases hp : c.phase with
      | starting => rw [Control.choose_idle ht hr (.inl hp), Control.choose_idle ht hr (.inl hp)]
      | ready =>
        cases hi : c.noticeSource with
        | none => rw [Control.choose_idle ht hr (.inr hi), Control.choose_idle ht hr (.inr hi)]
        | some i => rw [Control.choose_notice ht hr hp hi]; exact Control.choose_sending rfl

/-! ### What the fields outside the control unit read after them -/

section Fields

variable (s : State) (src : ReportSource) (d : Octets) (r : Request) (a : Answer) (l : List Request)

@[simp] theorem State.raise_powered : (s.raise src d).powered = s.powered := rfl
@[simp] theorem State.raise_services : (s.raise src d).services = s.services := rfl
@[simp] theorem State.raise_plan : (s.raise src d).plan = s.plan := rfl
@[simp] theorem State.raise_ports : (s.raise src d).ports = s.ports := rfl
@[simp] theorem State.raise_cues : (s.raise src d).cues = s.cues := rfl
@[simp] theorem State.raise_lines : (s.raise src d).lines = s.lines := rfl
@[simp] theorem State.raise_templates : (s.raise src d).templates = s.templates := rfl
@[simp] theorem State.raise_alerts : (s.raise src d).alerts = s.alerts := rfl
@[simp] theorem State.raise_store : (s.raise src d).store = s.store := rfl
@[simp] theorem State.raise_carousels : (s.raise src d).carousels = s.carousels := rfl
@[simp] theorem State.raise_directory : (s.raise src d).directory = s.directory := rfl
@[simp] theorem State.raise_output : (s.raise src d).output = s.output := rfl
@[simp] theorem State.raise_pending : (s.raise src d).pending = s.pending := rfl

@[simp] theorem State.taken_powered : (s.taken l).powered = s.powered := rfl
@[simp] theorem State.taken_services : (s.taken l).services = s.services := rfl
@[simp] theorem State.taken_plan : (s.taken l).plan = s.plan := rfl
@[simp] theorem State.taken_ports : (s.taken l).ports = s.ports := rfl
@[simp] theorem State.taken_cues : (s.taken l).cues = s.cues := rfl
@[simp] theorem State.taken_lines : (s.taken l).lines = s.lines := rfl
@[simp] theorem State.taken_templates : (s.taken l).templates = s.templates := rfl
@[simp] theorem State.taken_alerts : (s.taken l).alerts = s.alerts := rfl
@[simp] theorem State.taken_store : (s.taken l).store = s.store := rfl
@[simp] theorem State.taken_carousels : (s.taken l).carousels = s.carousels := rfl
@[simp] theorem State.taken_directory : (s.taken l).directory = s.directory := rfl
@[simp] theorem State.taken_output : (s.taken l).output = s.output := rfl
@[simp] theorem State.taken_pending : (s.taken l).pending = s.pending := rfl
@[simp] theorem State.taken_control : (s.taken l).control = { s.control with requests := l } := rfl

variable (e : Events)

theorem State.raiseAll_field {α : Type} (g : State → α) (free : ∀ u c, g (u.withControl c) = g u) :
    g (s.raiseAll e) = g s := by
  obtain ⟨c, hc⟩ := State.raiseAll_eq e s
  rw [hc, free]

@[simp] theorem State.raiseAll_powered : (s.raiseAll e).powered = s.powered :=
  s.raiseAll_field e State.powered fun _ _ => rfl
@[simp] theorem State.raiseAll_services : (s.raiseAll e).services = s.services :=
  s.raiseAll_field e State.services fun _ _ => rfl
@[simp] theorem State.raiseAll_plan : (s.raiseAll e).plan = s.plan :=
  s.raiseAll_field e State.plan fun _ _ => rfl
@[simp] theorem State.raiseAll_ports : (s.raiseAll e).ports = s.ports :=
  s.raiseAll_field e State.ports fun _ _ => rfl
@[simp] theorem State.raiseAll_cues : (s.raiseAll e).cues = s.cues :=
  s.raiseAll_field e State.cues fun _ _ => rfl
@[simp] theorem State.raiseAll_lines : (s.raiseAll e).lines = s.lines :=
  s.raiseAll_field e State.lines fun _ _ => rfl
@[simp] theorem State.raiseAll_templates : (s.raiseAll e).templates = s.templates :=
  s.raiseAll_field e State.templates fun _ _ => rfl
@[simp] theorem State.raiseAll_alerts : (s.raiseAll e).alerts = s.alerts :=
  s.raiseAll_field e State.alerts fun _ _ => rfl
@[simp] theorem State.raiseAll_store : (s.raiseAll e).store = s.store :=
  s.raiseAll_field e State.store fun _ _ => rfl
@[simp] theorem State.raiseAll_carousels : (s.raiseAll e).carousels = s.carousels :=
  s.raiseAll_field e State.carousels fun _ _ => rfl
@[simp] theorem State.raiseAll_directory : (s.raiseAll e).directory = s.directory :=
  s.raiseAll_field e State.directory fun _ _ => rfl
@[simp] theorem State.raiseAll_output : (s.raiseAll e).output = s.output :=
  s.raiseAll_field e State.output fun _ _ => rfl
@[simp] theorem State.raiseAll_pending : (s.raiseAll e).pending = s.pending :=
  s.raiseAll_field e State.pending fun _ _ => rfl

end Fields

end Sys2Proof.Machine
end

