-- ==== Sys2Proof/WellFormed.lean ====
section
/-! DEFINITION. Which commands are well formed: the conditions the operand types do not carry. -/

namespace Sys2Proof

/-- The limit on the octets one command carries: the longest contribution frame (R199), "2,232 octets
at most", which is also above the longest control message (R197, 1,107 octets). -/
def Instr.octetLimit : Nat := 2232

/-- A command is well formed when something happens in it: octets arrive (and no more than one item's
worth), and a bit fault changes one or more bits of one group, none of them named twice (R101).
A command that is not well formed still has a meaning: the same rules, applied as they stand. -/
def Instr.wellFormed : Instr → Bool
  | .messageReceived os => !os.isEmpty && os.length ≤ Instr.octetLimit
  | .offerWordReceived _ os => !os.isEmpty && os.length ≤ Instr.octetLimit
  | .contributionFrame _ os => !os.isEmpty && os.length ≤ Instr.octetLimit
  | .bitFault _ _ bits => !bits.isEmpty && bits.Nodup
  | .alertTimerExpiry n => n ≠ 0
  | .powerOn _ | .hardReset _ | .startingEnd | .unknownKind | .transmitterFree
  | .svcSet | .svcDrop | .svcRead | .planEdit | .planCopy | .planCommit | .planWithdraw | .planRead
  | .portSet | .portRenegotiate | .portRead | .outputRead | .directoryRead
  | .objOpen | .objLoad | .objClose | .objDrop | .objRead | .storeStatus | .storeClear
  | .carAdd | .carRemove | .carClear | .carResume | .carRead
  | .tplErase | .tplWrite | .tplLock | .tplUnlock | .tplRead
  | .trigSet | .trigRead | .cueSet | .cueRead | .alertRaise | .alertClear | .alertList
  | .reportSet | .pendingRead | .status | .linkRead | .restart | .restartAfterAssembly
  | .framePull | .streamTake | .cellRequest | .alertCellRequest | .frameAssemblyComplete
  | .outputTransmissionEnd | .stallTimerExpiry | .offerWordPeriod _ | .listenTimerExpiry _
  | .linkTimerExpiry _ | .triggerRawChange _ _ | .filterTimerExpiry _ | .eraseEnd | .writeEnd
  | .lossOfPower => true

end Sys2Proof
end

