-- ==== Sys2Proof/Tests/Slice0.lean ====
section
/-! SUPPORT. The model's own tests: ill-formed commands refused, a few commands on small states with the
manual's own numbers, and for each statement with hypotheses a state and operands that meet them. -/

namespace Sys2Proof.Tests

open Sys2Proof.Machine

set_option maxRecDepth 100000
set_option Elab.async false

/-! ### Small states -/

/-- The part right after STARTING. -/
def ready : State :=
  State.reset.withControl { State.reset.control with phase := .ready, startTimer := none }

/-- A state with one request in the queue. -/
def asking (s : State) (kind : Octet) (body : Octets) : State :=
  s.withControl { s.control with requests := [{ kind := kind, tag := 1, body := body }] }

/-- The control unit of a state may take a request. -/
def able (s : State) : Bool :=
  s.powered && decide (s.control.phase = .ready) && s.control.restarting.isNone && s.control.replies.isEmpty

/-- The state has a request of this kind and body, about to be taken. -/
def Asked (s : State) (kind : Octet) (body : Octets) : Prop :=
  ∃ r, Taking s r [] ∧ r.kind = kind ∧ r.body = body

theorem asked (s : State) (kind : Octet) (body : Octets) (h : able s = true) :
    Asked (asking s kind body) kind body := by
  simp only [able, Bool.and_eq_true, decide_eq_true_eq, Option.isNone_iff_eq_none,
    List.isEmpty_iff] at h
  obtain ⟨⟨⟨hp, hr⟩, hf⟩, hb⟩ := h
  refine ⟨_, ⟨hp, hr, hf, ?_, rfl⟩, rfl, rfl⟩
  intro x hx
  have : x ∈ s.control.replies := hx
  rw [hb] at this
  exact absurd this (by simp)

/-- The state a command leaves. -/
def after (c : Instr) (s : State) : State :=
  match exec c s with
  | .next t => t
  | .fault _ => s
  | .refused _ => s

/-- The reply that goes out at once when the transmitter was idle: code and result. -/
def reply (s : State) : Octets :=
  match s.control.transmitter with
  | some m => m.body.tail
  | none => []

/-- A request carried out on a state with nothing else to send. -/
def carriedOut (s : State) (kind : Octet) (body : Octets) : State :=
  after (commandOfKind kind) (asking s kind body)

def audioService : Service :=
  { id := 0xFFFF, shortName := [0x20], longName := none, kind := .audio
    binding := some { port := 7, number := 3 }, protection := 7, regions := 1 }

def dataService : Service :=
  { id := 1, shortName := List.replicate 8 0x7E, longName := some (List.replicate 16 0x41), kind := .data
    binding := none, protection := 0, regions := 0x8000 }

def withService (s : State) (i : Fin 32) (v : Service) : State :=
  s.withServices (s.services.set i (some v))

def entry : CarouselEntry :=
  { id := 0, object := 0, repeats := 1, hold := false, notify := false, once := false }

def object (state : ObjectState) : StoredObject :=
  { state := state, kind := .picture, declared := 40, loaded := 40, tail := [], pages := [0]
    references := 1 }

/-- One service with a picture of 40 octets in page 0 and one entry that names it. -/
def carousel (state : ObjectState) (lane : LanePhase) : State :=
  ((withService ready 31 dataService).withStore
    { ObjectStore.initial with
      free := (List.range 1024).drop 1
      objects := ObjectStore.initial.objects.set 0 (some (object state)) }).setLane 31 .picture
      { phase := lane, entries := [entry], current := some 0, cursor := 1, done := 0, owed := none }

def content (level : Fin 8) : AlertContent :=
  { level := level, regions := 1, stream := some { port := 7, number := 3 }, duration := 3600
    text := List.replicate 240 0x41 }

def alert (n : Octet) (stamp : Stamp) (level : Fin 8) (state : AlertState) : Alert :=
  { number := n, stamp := stamp, origin := .host, content := content level, remaining := 1
    state := state }

def withAlerts (s : State) (l : List Alert) : State :=
  s.withAlerts
    { (s.alerts.withAlerts l) with
      lastNumber := octet l.length, counter := BitVec.ofNat 32 l.length }

/-- The list of chapter 10, section 10.9, with alert 4 IN_FORCE or ENDING. -/
def full (fourth : AlertState) : List Alert :=
  [alert 1 1 2 .inForce, alert 2 2 5 .inForce, alert 3 3 3 .inForce, alert 4 4 2 fourth,
    alert 5 5 7 .inForce, alert 6 6 4 .inForce, alert 7 7 2 .inForce, alert 8 8 6 .inForce]

def withSlot (s : State) (i : Fin 16) (x : Slot) : State :=
  s.withTemplates { s.templates with slots := s.templates.slots.set i x }

def withOperation (s : State) (o : Operation) : State :=
  s.withTemplates { s.templates with operation := some o }

def withPort (s : State) (n : Fin 8) (p : Port) : State := s.setPort n p

def locked : Port :=
  { Port.initial with state := .locked, format := some .a24, streams := some 1, linkTimer := some 9 }

def frame : CarriageFrame :=
  { resent := false, count := 9, plan := 0, slots := List.replicate 8 .empty, cells := [] }

def run (source : Option Machine.Stream) (taken : Option TextHold) : FrameRun :=
  { service := 31, run := { start := 620, length := 20, share := 10 }, source := source, taken := taken }

def working (p : Progress) (link : LinkCondition) : State :=
  ready.withOutput
    { Output.initial with
      state := .running, bufferA := .lastSent frame, bufferB := .assembling frame p, link := link
      stallTimer := some 1 }

def placing (q : FrameRun) (audioDone : Bool) (cellsDone : Nat) : Progress :=
  { runs := [q], audioDone := audioDone, cellsDone := cellsDone, answers := [] }

def contribution : ContributionFrame :=
  { stream := 0, sequence := 255, format := .a24, payload := List.replicate 360 0
    ancillary := List.replicate 64 0 }

def line (c : LineConfig) (raw : PinLevel) (settled : Option PinLevel) : TriggerLine :=
  { config := c, raw := raw, settled := settled, timer := some 0, pending := false }

def lineConfig (enabled : Bool) (edge : EdgeSetting) (mode : LineMode) : LineConfig :=
  { enabled := enabled, edge := edge, mode := mode, source := SourceContent.initial, filterTime := 255 }

def withLine (s : State) (n : Fin 4) (l : TriggerLine) : State := s.withLines (s.lines.set n l)

/-! ### Ill-formed commands -/

theorem test_no_octets : (Instr.messageReceived []).wellFormed = false := by decide
theorem test_no_word : (Instr.offerWordReceived 0 []).wellFormed = false := by decide
theorem test_no_frame : (Instr.contributionFrame 0 []).wellFormed = false := by decide
theorem test_too_many_octets : (Instr.contributionFrame 0 (List.replicate 2233 0)).wellFormed = false := by
  decide +kernel
theorem test_longest_frame : (Instr.contributionFrame 7 (List.replicate 2232 0)).wellFormed = true := by
  decide +kernel
theorem test_no_bit : (Instr.bitFault 0 0 []).wellFormed = false := by decide
theorem test_bit_twice : (Instr.bitFault 0 0 [5, 5]).wellFormed = false := by decide
theorem test_no_alert_number : (Instr.alertTimerExpiry 0).wellFormed = false := by decide

/-! ### The layouts, by the octets of the manual's own examples (12.4, 12.5) -/

theorem test_offer_word :
    (OfferWord.octets { formats := 0x2A, streams := 4, ack := true }).take 4 = [0x5C, 0x93, 0x2A, 0x84] := by
  decide

theorem test_header :
    CarriageFrame.header { frame with count := 302, plan := 40, resent := true }
      = [0x3D, 0xA2, 0x5E, 0xC1, 0x01, 0x01, 0x2E, 0x28] := by
  decide

theorem test_fill : (CarriageFrame.cell frame 639).take 2 = [0xE4, 0xE4] := by decide

/-- The check of R197 over the digits 1 to 9, as its generator, preset and inversion give it. -/
theorem test_check16 : check16 [0x31, 0x32, 0x33, 0x34, 0x35, 0x36, 0x37, 0x38, 0x39] = 0x29B1 := by
  decide +kernel

theorem test_check8 : check8 [0x31, 0x32, 0x33, 0x34, 0x35, 0x36, 0x37, 0x38, 0x39] = 0xF4 := by
  decide +kernel

theorem test_check32 :
    check32 [0x31, 0x32, 0x33, 0x34, 0x35, 0x36, 0x37, 0x38, 0x39] = 0xFC891918 := by
  decide +kernel

/-! ### Commands on small states -/

theorem test_svc_set : (carriedOut ready 0x10 (octet 31 :: audioService.octets)).services[31]
    = some audioService := by decide +kernel

theorem test_svc_set_character : reply (carriedOut ready 0x10
    (octet 0 :: { audioService with shortName := [0x7F] }.octets)) = [16] := by decide +kernel

theorem test_svc_read_unused : reply (carriedOut ready 0x12 [31]) = 0 :: List.replicate 38 0 := by
  decide +kernel

theorem test_svc_drop : (carriedOut (carousel .ready .held) 0x11 [31]).services[31] = none := by
  decide +kernel

theorem test_plan_edit_end : reply (carriedOut (withService ready 31 dataService) 0x20
    (31 :: be16 639 ++ be16 1 ++ be16 1)) = [0] := by decide +kernel

theorem test_plan_edit_past_end : reply (carriedOut (withService ready 31 dataService) 0x20
    (31 :: be16 639 ++ be16 2 ++ be16 2)) = [16] := by decide +kernel

theorem test_plan_commit : (carriedOut ready 0x22 [250]).plan.countdown = some 250 := by decide +kernel

theorem test_plan_commit_one : reply (carriedOut ready 0x22 [1]) = [16] := by decide +kernel

/-- 12.4: the PORT_SET of the sequence, and the word it sends. -/
theorem test_port_set :
    ((carriedOut ready 0x30 [0, 1, 0x2A, 3, 0xE8, 1]).ports[0].sent.map fun w => w.octets.take 4)
      = some [0x5C, 0x93, 0x2A, 0x04] := by decide +kernel

theorem test_port_set_zero_formats : reply (carriedOut ready 0x30 [0, 1, 0, 3, 0xE8, 1]) = [16] := by
  decide +kernel

/-- 12.4: resolution to the common format of higher rate. -/
theorem test_resolution :
    (after (.offerWordPeriod 0) (withPort ready 0
      { Port.initial with
        config := { PortConfig.initial with permitted := 0x2A }
        state := .acking
        exchange :=
          { previous := some { formats := 0x0B, streams := 2, ack := true }, matched := 3, acked := 3
            closing := some 5 }
        period := some 0, linkTimer := some 1 })).control.transmitter.map Message.body
      = some [8, 1, 0, 4, 2, 1, 0, 0, 0, 0] := by decide +kernel

theorem test_obj_open : reply (carriedOut ready 0x40 (2 :: be16 49152)) = [0, 1, 96] := by
  decide +kernel

theorem test_obj_open_text_too_long : reply (carriedOut ready 0x40 (1 :: be16 161)) = [16] := by
  decide +kernel

theorem test_car_add : reply (carriedOut (carousel .ready .held) 0x50 [31, 1, 15, 7, 1, 0]) = [0, 1, 2] := by
  decide +kernel

theorem test_car_remove : reply (carriedOut (carousel .ready .running) 0x51 [0]) = [0, 0] := by
  decide +kernel

theorem test_forced_drop : reply (carriedOut (carousel .ready .running) 0x43 [1, 1]) = [0, 0, 1] := by
  decide +kernel

theorem test_cell_request :
    ((after .cellRequest (working (placing (run none none) true 9) .idle |>.withStore
        (carousel .ready .running).store |>.withCarousels
        (carousel .ready .running).carousels)).output.work.map fun w => w.1.cells.map fun c => c.1)
      = some [639] := by decide +kernel

theorem test_tpl_write : reply (carriedOut ready 0x61 (15 :: (content 1).octets)) = [1] := by
  decide +kernel

theorem test_tpl_write_no_text :
    reply (carriedOut ready 0x61 (15 :: { content 1 with text := [] }.octets)) = [16] := by
  decide +kernel

theorem test_trig_set_held_both :
    reply (carriedOut ready 0x68 [3, 1, 3, 2, 15, 7, 0, 1, 255]) = [16] := by decide +kernel

theorem test_cue_set_offset :
    reply (carriedOut ready 0x6A
      (CueConfig.octets
        { enabled := true, port := 7, stream := none, raises := false, source := SourceContent.initial
          segments := [{ offset := 57, pattern := List.replicate 8 0, mask := List.replicate 8 0 }] } 3))
      = [16] := by decide +kernel

/-- 10.9, step 1: the ENDING alert makes room. -/
theorem test_room_by_ending :
    ((withAlerts ready (full (.ending .cleared 2))).alerts.enlist .host (content 5)).unit.alerts.map
      Alert.number = [1, 2, 3, 5, 6, 7, 8, 9] := by decide +kernel

/-- 10.9, step 2: of the two alerts of level 2 the later is displaced. -/
theorem test_displacement :
    ((withAlerts ready (full .inForce)).alerts.enlist .host (content 3)).unit.alerts.map Alert.number
      = [1, 2, 3, 4, 5, 6, 8, 9] := by decide +kernel

theorem test_alert_raise : reply (carriedOut ready 0x70 ([2, 0] ++ (content 7).octets)) = [0, 1] := by
  decide +kernel

theorem test_status : reply (carriedOut ready 0x7A []) = [0, 0, 0, 0, 0, 0, 0, 0, 4, 0, 1, 1] := by
  decide +kernel

theorem test_first_pull : (after .framePull ready).output.count = 1 := by decide +kernel

/-- 12.5: the repeat of frame 302. -/
theorem test_repeat :
    (after .framePull (working (placing (run none none) false 0) .idle)).output.bufferA
      = .lastSent { frame with resent := true } := by decide +kernel

/-! ### Witnesses: for each statement with hypotheses, states and operands that meet them, clause by clause -/

theorem witness_StepRunsTheFrontCommand :
    (ready.withPending [.status, .framePull]).pending = .status :: [.framePull] := rfl

theorem witness_IdleStepIsOneMillisecond :
    ready.pending = [] ∧ ready.powered = true ∧ (ready.withPowered false).powered = false :=
  ⟨rfl, rfl, rfl⟩

theorem witness_PowerOnAndHardResetValues :
    (Instr.powerOn 3 = .powerOn 3 ∧ StartCause.powerOn = .powerOn) ∧
      (Instr.hardReset 0 = .hardReset 0 ∧ StartCause.hardReset = .hardReset ∧ ready.powered = true) :=
  ⟨⟨rfl, rfl⟩, rfl, rfl, rfl⟩

theorem witness_StartUpReadsTheTemplates :
    (Instr.powerOn 0 = .powerOn 0 ∨ (Instr.powerOn 0 = .hardReset 0 ∧ ready.powered = true)) ∧
      (content 1).stored.check = Config.templateCheck (content 1).stored.octets ∧
      { (content 1).stored with check := Config.templateCheck (content 1).octets + 1 }.check
        ≠ Config.templateCheck (content 1).octets := ⟨.inl rfl, rfl, Nat.succ_ne_self _⟩

/-- R193: STARTING lasts 30 ms; an end told before is none. -/
theorem test_starting_end :
    ((after .startingEnd State.reset).control.phase,
      (after .startingEnd
        (State.reset.withControl { State.reset.control with startTimer := some 0 })).control.phase)
      = (.starting, .ready) := by decide +kernel

theorem witness_StartingIsBusyAndEndsReady :
    (asking State.reset 0xFF []).powered = true ∧
      (asking State.reset 0xFF []).control.phase = .starting ∧
      (asking State.reset 0xFF []).control.restarting = none ∧
      (asking State.reset 0xFF []).control.replies = [] ∧
      (asking State.reset 0xFF []).control.requests = { kind := 0xFF, tag := 1, body := [] } :: [] ∧
      (asking State.reset 0xFF []).control.startTimer ≠ some 0 ∧
      { State.reset.control with startTimer := some 0 }.startTimer = some 0 := by
  decide +kernel

theorem witness_RestartIsCarriedOutOrWaits :
    Asked (asking ready 0x7C []) 0x7C [] ∧
      ((ready.withControl { ready.control with restarting := some 255 }).control.restarting = some 255 ∧
        ready.output.assembling = false) :=
  ⟨asked _ _ _ (by decide +kernel), by decide +kernel⟩

theorem witness_MessageReceivedJoinsTheQueue :
    ready.powered = true ∧ ready.control.receiver = [] ∧ (List.replicate 1100 (0 : Octet)).length ≤ 1100 ∧
      (asking ready 0 []).control.requests.length < 4 := by decide +kernel

theorem witness_FullQueueRefusesOrDrops :
    (ready.withControl
      { ready.control with
        requests := List.replicate 4 { kind := 0x12, tag := 0, body := [0] }
        replies := List.replicate 4 { kind := 0, tag := 0, code := .queueFull, result := [] } }).control
      |> fun c => c.requests.length = 4 ∧ c.queueFullWaiting = 4 ∧ c.receiver = [] := by decide +kernel

theorem witness_ReceiveFaultsAreCounted :
    1100 < (0x04 : Octet).toNat * 256 + (0x4D : Octet).toNat ∧
      field16 [0x10, 1, 0, 0] 2 + 4 = 4 ∧ (0xA7 : Octet) ∉ ([0x10, 1, 0, 0] : Octets) ∧
      (check16 [0x10, 1, 0, 0]).toNat ≠ (0 : Octet).toNat * 256 + (0 : Octet).toNat ∧
      (0 : Octet) ≠ 0xA7 ∧ ([] : Octets).length < 4 ∧ ready.control.receiver = [] ∧
      field16 [0x10, 1, 0, 0] 2 ≤ 1100 ∧
      ([0x10, 1, 0, 0, 0x55] : Octets).length < field16 [0x10, 1, 0, 0, 0x55] 2 + 6 := by decide +kernel

theorem witness_UnfitRequestsAreRefused :
    Asked (asking ready 0xFF []) 0xFF [] ∧ requestRow 0xFF = none ∧
      Asked (asking ready 0x12 []) 0x12 [] ∧ requestRow 0x12 = some (.svcRead, 1, 1) ∧
      Asked (asking ready 0x41 (List.replicate 1028 0)) 0x41 (List.replicate 1028 0) ∧
      requestRow 0x41 = some (.objLoad, 4, 1027) :=
  ⟨asked _ _ _ (by decide +kernel), rfl, asked _ _ _ (by decide +kernel), rfl,
    asked _ _ _ (by decide +kernel), rfl⟩

/-- Sending, with the sources of index 3 and 5 pending at the level 6 both have. -/
def sending : Control :=
  { (ready.control.raise .trigger []).raise .templateUnusable [] with
    transmitter := some { kind := 0x81, tag := 0, body := [] } }

theorem witness_TransmitterSendsRepliesThenNotices :
    sending.replies = [] ∧ sending.phase = .ready ∧ sending.reports[3].pending = true ∧
      sending.reports[3].level ≠ 0 ∧
      (∀ j : Fin 24, sending.reports[j].pending = true →
        sending.reports[j].level < sending.reports[3].level ∨
          (sending.reports[j].level = sending.reports[3].level ∧ 3 ≤ j)) ∧
      (∀ j : Fin 24, ready.control.reports[j].pending = false ∨ ready.control.reports[j].level = 0) ∧
      State.reset.control.phase = .starting ∧
      (sending.place { kind := 0, tag := 0, code := .done, result := [] }).replies
        = { kind := 0, tag := 0, code := .done, result := [] } :: [] := by decide +kernel

theorem witness_RaiseRecordsTheEvent : (List.replicate 8 (1 : Octet)).length ≤ 8 := by decide

theorem witness_ControlUnitRequests :
    Asked (asking ready 0x78 [23, 0]) 0x78 [23, 0] ∧ Asked (asking ready 0x79 []) 0x79 [] ∧
      Asked (asking ready 0x7A []) 0x7A [] ∧ Asked (asking ready 0x7B []) 0x7B [] :=
  ⟨asked _ _ _ (by decide +kernel), asked _ _ _ (by decide +kernel), asked _ _ _ (by decide +kernel),
    asked _ _ _ (by decide +kernel)⟩

theorem audioService_valid : audioService.Valid where
  id := by decide
  short := by decide
  long n h := by cases h
  bound h := by cases h
  regions := by decide

theorem dataService_valid : dataService.Valid where
  id := by decide
  short := by decide
  long n h := by
    obtain rfl : n = List.replicate 16 0x41 := by injection h with h; exact h.symm
    decide
  bound _ := rfl
  regions := by decide

def setting (s : State) (i : Fin 32) (v : Service) : State := asking s 0x10 (octet i.val :: v.octets)

theorem witness_SvcSetDefinesOrRefuses :
    Asked (setting ready 31 audioService) 0x10 (31 :: audioService.octets) ∧ audioService.Valid ∧
      (∀ j : Fin 32, (setting ready 31 audioService).services[j] = none) ∧
      Asked (setting (withService ready 0 audioService) 31 audioService) 0x10
        (31 :: audioService.octets) ∧
      (withService ready 0 audioService).services[(0 : Fin 32)] = some audioService ∧
      Asked (setting (withService ready 0 { audioService with id := 1 }) 31 audioService) 0x10
        (31 :: audioService.octets) ∧
      audioService.binding ≠ none ∧
      Asked (setting ((withService ready 31 dataService).withPlan
        { Plan.initial with staged := [{ service := 31, start := 0, length := 1, share := 1 }] }) 31
        audioService) 0x10 (31 :: audioService.octets) ∧
      dataService.id ≠ audioService.id :=
  ⟨asked _ _ _ (by decide +kernel), audioService_valid, by decide +kernel,
    asked _ _ _ (by decide +kernel), by decide +kernel, asked _ _ _ (by decide +kernel), by decide,
    asked _ _ _ (by decide +kernel), by decide⟩

theorem laneLaw_initial : laneLaw Lane.initial :=
  ⟨fun _ => rfl, fun h => absurd rfl h, by decide⟩

/-- The lanes of the small carousel state keep their law. -/
theorem carousel_lanes (x : ObjectState) (p : LanePhase) (h : p ≠ .empty) : LaneLaw (carousel x p) := by
  intro i k
  have other : ∀ j : Fin 32, j ≠ 31 → (carousel x p).carousels[j] = Carousel.initial := by
    intro j hj
    have e : (carousel x p).carousels
        = updateAt ready.carousels 31 fun c => c.setLane .picture
          { phase := p, entries := [entry], current := some 0, cursor := 1, done := 0, owed := none } :=
      rfl
    have hr : ready.carousels = Vector.replicate 32 Carousel.initial := rfl
    rw [e, updateAt_other _ _ hj, hr]
    simp
  by_cases hi : i = 31
  · subst hi
    cases k
    · exact laneLaw_initial
    · have e : (carousel x p).lane 31 .picture
          = { phase := p, entries := [entry], current := some 0, cursor := 1, done := 0, owed := none } :=
        rfl
      rw [e]
      exact laneLaw.mk (fun he => absurd he (by simp))
        (fun _ => ⟨h, entry, List.mem_singleton.mpr rfl, rfl⟩) (List.nodup_singleton _)
  · unfold State.lane
    rw [other i hi]
    cases k <;> exact laneLaw_initial

theorem lanes_free {s : State} (h : LaneLaw s) (k : Octet) (b : Octets) : LaneLaw (asking s k b) := h

theorem witness_SvcDropLeavesNoTrace :
    Asked (asking (carousel .ready .held) 0x11 [31]) 0x11 [31] ∧
      (carousel .ready .held).services[(31 : Fin 32)] = some dataService ∧
      (carousel .ready .held).plan.onAir 31 = false ∧
      (carousel .ready .held).plan.isStaged 31 = false ∧
      LaneLaw (asking (carousel .ready .held) 0x11 [31]) :=
  ⟨asked _ _ _ (by decide +kernel), by decide +kernel, by decide +kernel, by decide +kernel,
    lanes_free (carousel_lanes _ _ (by decide)) _ _⟩

def planned (countdown : Option Nat) : State :=
  (withService ready 31 dataService).withPlan
    { Plan.initial with
      active := [{ service := 31, start := 0, length := 639, share := 639 }]
      staged := [{ service := 0, start := 0, length := 639, share := 0 }]
      countdown := countdown }

theorem witness_PlanEditStagesOrRemoves :
    Asked (asking (planned none) 0x20 (31 :: be16 639 ++ be16 1 ++ be16 1)) 0x20
        (31 :: be16 639 ++ be16 1 ++ be16 1) ∧
      (planned none).plan.countdown = none ∧ 639 + 1 ≤ 640 ∧ dataService.kind = .data ∧
      (∀ e ∈ (planned none).plan.staged, e.start + e.length ≤ 639 ∧ 0 < e.length) ∧
      Asked (asking (planned none) 0x20 (0 :: be16 0 ++ be16 0 ++ be16 0)) 0x20
        (0 :: be16 0 ++ be16 0 ++ be16 0) :=
  ⟨asked _ _ _ (by decide +kernel), rfl, by decide, rfl, by decide +kernel,
    asked _ _ _ (by decide +kernel)⟩

theorem witness_PlanCopyCommitWithdraw :
    Asked (asking (planned none) 0x21 []) 0x21 [] ∧ (planned none).plan.countdown = none ∧
      Asked (asking (planned none) 0x22 [2]) 0x22 [2] ∧ Asked (asking (planned none) 0x22 [250]) 0x22 [250] ∧
      Asked (asking (planned (some 2)) 0x23 []) 0x23 [] ∧ (planned (some 2)).plan.countdown = some 2 ∧
      Asked (asking (planned (some 1)) 0x23 []) 0x23 [] ∧ (planned (some 1)).plan.countdown = some 1 ∧
      Asked (asking (planned none) 0x23 []) 0x23 [] ∧
      Asked (asking (planned (some 1)) 0x20 (List.replicate 7 0)) 0x20 (List.replicate 7 0) ∧
      Asked (asking (planned (some 1)) 0x21 []) 0x21 [] ∧
      Asked (asking (planned (some 1)) 0x22 [2]) 0x22 [2] :=
  ⟨asked _ _ _ (by decide +kernel), rfl, asked _ _ _ (by decide +kernel), asked _ _ _ (by decide +kernel),
    asked _ _ _ (by decide +kernel), rfl, asked _ _ _ (by decide +kernel), rfl,
    asked _ _ _ (by decide +kernel), asked _ _ _ (by decide +kernel), asked _ _ _ (by decide +kernel),
    asked _ _ _ (by decide +kernel)⟩

theorem witness_CountdownStepsAndSwitches :
    (planned (some 1)).plan.countdown = some 1 ∧ (planned (some 1)).plan.withdrawn = 0 ∧
      (planned (some 250)).plan.countdown = some 250 ∧
      { Plan.initial with withdrawn := 4 }.countdown = none ∧
      { Plan.initial with withdrawn := 4 }.withdrawn ≤ 4 := by decide +kernel

theorem witness_ReadRequestsReturnTheState :
    Asked (asking (planned none) 0x12 [31]) 0x12 [31] ∧
      (planned none).services[(31 : Fin 32)] = some dataService ∧
      Asked (asking (planned none) 0x12 [0]) 0x12 [0] ∧ (planned none).services[(0 : Fin 32)] = none ∧
      Asked (asking (planned none) 0x24 [0]) 0x24 [0] ∧ Asked (asking (planned none) 0x24 [1]) 0x24 [1] ∧
      Asked (asking ready 0x32 [7]) 0x32 [7] ∧ Asked (asking ready 0x38 []) 0x38 [] ∧
      Asked (asking ready 0x39 []) 0x39 [] :=
  ⟨asked _ _ _ (by decide +kernel), by decide +kernel, asked _ _ _ (by decide +kernel),
    by decide +kernel, asked _ _ _ (by decide +kernel), asked _ _ _ (by decide +kernel),
    asked _ _ _ (by decide +kernel), asked _ _ _ (by decide +kernel), asked _ _ _ (by decide +kernel)⟩

theorem witness_PortSetAndRenegotiate :
    Asked (asking ready 0x30 [7, 1, 1, 0, 100, 0]) 0x30 [7, 1, 1, 0, 100, 0] ∧
      PortConfig.Valid { enabled := true, permitted := 1, interval := 100, sensing := false } ∧
      Asked (asking ready 0x30 [0, 0, 63, 0x13, 0x88, 1]) 0x30 [0, 0, 63, 0x13, 0x88, 1] ∧
      PortConfig.Valid { enabled := false, permitted := 63, interval := 5000, sensing := true } ∧
      Asked (asking (withPort ready 7 locked) 0x31 [7]) 0x31 [7] ∧ locked.state ≠ .disabled ∧
      Asked (asking ready 0x31 [7]) 0x31 [7] ∧ ready.ports[(7 : Fin 8)].state = .disabled :=
  ⟨asked _ _ _ (by decide +kernel), ⟨by decide, by decide⟩, asked _ _ _ (by decide +kernel),
    ⟨by decide, by decide⟩, asked _ _ _ (by decide +kernel), by decide,
    asked _ _ _ (by decide +kernel), rfl⟩

def offering (state : PortState) (matched acked : Nat) (closing : Option Nat) : Port :=
  { Port.initial with
    state := state
    exchange :=
      { previous := some { formats := 0x3F, streams := 4, ack := false }, matched := matched
        acked := acked, closing := closing }
    listenTimer := some 0, linkTimer := some 1, period := some 0 }

theorem witness_OfferWordIsTaken :
    (withPort ready 7 locked).ports[(7 : Fin 8)].state ≠ .disabled ∧
      (withPort ready 7 locked).ports[(7 : Fin 8)].line = [] ∧ ready.powered = true ∧
      ready.ports[(7 : Fin 8)].state = .disabled := by decide +kernel

theorem witness_OfferWordByPortState :
    { Port.initial with state := .listen }.linkTimer = none ∧
      (offering .offering 1 0 none).exchange.matched + 1 < 3 ∧
      3 ≤ (offering .offering 2 0 none).exchange.matched + 1 ∧
      (offering .acking 3 1 none).exchange.acked + 1 < 3 ∧
      3 ≤ (offering .acking 3 2 none).exchange.acked + 1 ∧
      (offering .acking 3 2 none).exchange.closing = none ∧
      (offering .acking 3 3 (some 0)).exchange.closing.isSome = true ∧
      (offering .noCommon 0 0 none).linkTimer = some 1 ∧ locked.state = .locked := by decide

theorem witness_OfferWordPeriodSendsAndResolves :
    (offering .offering 1 0 none).period = some 0 ∧ Port.initial.period ≠ some 0 ∧
      (offering .acking 3 3 (some 4)).exchange.closing = some 4 ∧ 4 + 1 < 6 ∧
      (offering .acking 3 3 (some 5)).exchange.closing = some 5 ∧
      inFormatSet (0x3F &&& 0x3F) .a144 = true ∧
      (∀ g ∈ [Format.a24, .a48, .a72, .a96, .a120, .a144], g.number ≤ Format.a144.number) ∧
      (0x20 &&& 0x1F : BitVec 6) = 0 := by decide

theorem witness_PortTimersExpire :
    (offering .listen 0 0 none).listenTimer = some 0 ∧ locked.listenTimer ≠ some 0 ∧
      { offering .listen 0 0 none with candidate := some .a24 }.config.sensing = true ∧
      inFormatSet 0x3F .a24 = true ∧ inFormatSet 0x3E .a24 = false ∧
      (offering .acking 3 0 none).candidate = none ∧ locked.linkTimer ≠ some 0 ∧
      { locked with linkTimer := some 0 }.linkTimer = some 0 := by decide

theorem witness_ContributionFramesByPortState :
    (withPort ready 7 locked).ports[(7 : Fin 8)].state.carries = true ∧ locked.line = [] ∧
      locked.format = some contribution.format ∧ locked.streams = some 1 ∧
      contribution.payload.length = 360 * contribution.format.number ∧
      contribution.ancillary.length ≤ 64 ∧ contribution.stream = octet 0 ∧
      1 ≤ { contribution with stream := 1 }.stream.toNat ∧
      locked.format ≠ some .a48 ∧ (offering .listen 0 0 none).state = .listen ∧
      (offering .noCommon 0 0 none).state = .noCommon ∧ Port.initial.state = .disabled ∧
      (∀ o ∈ contribution.covered ++ [0, 1], o ≠ 0x5C ∧ o ≠ 0xC3) := by decide +kernel

/-- One of two pairs of octets is not the check. -/
theorem witness_failed_check (b : Octets) :
    (check16 b).toNat ≠ (0 : Octet).toNat * 256 + (0 : Octet).toNat ∨
      (check16 b).toNat ≠ (0 : Octet).toNat * 256 + (1 : Octet).toNat := by
  by_cases h : (check16 b).toNat = 0
  · right; rw [h]; decide
  · left; exact h

theorem witness_ListenTakesTheFirstWord :
    (withPort ready 7 { Port.initial with state := .listen }).ports[(7 : Fin 8)].state = .listen ∧
      (withPort ready 7 { Port.initial with state := .listen }).ports[(7 : Fin 8)].linkTimer = none ∧
      (withPort ready 7 { Port.initial with state := .listen }).ports[(7 : Fin 8)].line = [] := by
  decide +kernel

theorem witness_PullsSendAndStartTheNextFrame :
    ready.control.phase = .ready ∧ ready.output.state = .waiting ∧
      { Output.initial with bufferA := .complete frame, state := .stalled }.state ≠ .waiting ∧
      { Output.initial with bufferA := .lastSent frame, bufferB := .complete frame }.link = .idle := by
  decide +kernel

theorem witness_LateAndEarlyPullsAndStalls :
    (working (placing (run none none) false 0) .idle).output.link = .idle ∧
      (working (placing (run none none) false 0) .idle).output.state ≠ .waiting ∧
      (working (placing (run none none) false 0) .sending).output.link = .sending ∧
      (working (placing (run none none) false 0) .idle).output.stallTimer ≠ some 0 ∧
      { (working (placing (run none none) false 0) .idle).output with stallTimer := some 0 }.stallTimer
        = some 0 ∧
      (working (placing (run none none) false 0) .idle).control.phase = .ready ∧
      State.reset.control.phase = .starting := by decide +kernel

def taking (queue : List QueuedFrame) : State :=
  (working (placing (run (some { port := 7, number := 3 }) none) false 0) .sending).setPort 7
    { locked with queues := locked.queues.set 3 queue }

/-- Two runs at a portion whose stream was taken before in the assembly; the first has this data share. -/
def keeping (share : Nat) : State :=
  working
    { runs :=
        [{ run (some { port := 7, number := 3 }) none with run := { start := 600, length := 20, share := share } },
          run (some { port := 6, number := 0 }) none]
      audioDone := false
      cellsDone := 0
      answers := [({ port := 7, number := 3 }, some contribution.queued)] } .sending

/-- R75, R76: the answer kept fills the first run, and the take is the second's. -/
theorem test_kept_answer :
    ((after .streamTake (keeping 0)).output.work.map fun w => (w.1.cells.length, w.2.answers.length))
      = some (10, 2) := by decide +kernel

theorem witness_StreamTakePlacesTheAudio :
    (taking []).powered = true ∧
      (taking []).output.work
        = some (frame, placing (run (some { port := 7, number := 3 }) none) false 0) ∧
      (taking [contribution.queued]).ports[(7 : Fin 8)].queues[(3 : Fin 4)] = contribution.queued :: [] ∧
      10 * contribution.format.number ≤ (run none none).run.length - (run none none).run.share ∧
      (run none none).run.length - (run none none).run.share < 10 * Format.a48.number ∧
      (taking []).ports[(7 : Fin 8)].queues[(3 : Fin 4)] = [] ∧
      (keeping 0).powered = true ∧
      ((keeping 0).reached.map fun a => (a.progress.runs.length, a.progress.audioDone))
        = some (1, false) := by decide +kernel

theorem witness_DataShareIsFilledAndCompletes :
    (working (placing (run none none) true 9) .idle).output.work
        = some (frame, placing (run none none) true 9) ∧
      (9 < (run none none).run.share) ∧ (run none none).taken = none ∧
      (run none (some { number := 1, text := [0x41] })).taken = some { number := 1, text := [0x41] } ∧
      (run none (some { number := 1, text := [] })).taken = some { number := 1, text := [] } ∧
      (placing (run none none) true 10).cellsDone = (run none none).run.share ∧
      ((keeping 10).reached.map fun a => (a.progress.runs.length, a.progress.audioDone)) = some (2, true) ∧
      ((working (placing (run none none) true 10) .idle).reached.map fun a => a.progress.runs.length)
        = some 0 := by decide +kernel

theorem witness_CellRequestsChooseTheLane :
    ((carousel .ready .running).lane 31 .picture).phase = .running ∧
      ((carousel .ready .running).lane 31 .text).phase = .empty ∧
      ∃ e ∈ ((carousel .ready .running).lane 31 .picture).entries,
        ∃ x, (carousel .ready .running).store.objects[e.object] = some x ∧ x.state = .ready :=
  ⟨by decide +kernel, by decide +kernel, entry, by decide +kernel, object .ready, by decide +kernel, rfl⟩

/-- A lane of two entries, the first of them current and ONCE, and a store with objects of both. -/
def pair : Lane :=
  { phase := .running, entries := [{ entry with once := true }, { entry with id := 1, object := 1 }]
    current := some 0, cursor := 1, done := 0, owed := none }

def pairStore (first : ObjectState) (differing : List (Nat × Nat)) : ObjectStore :=
  { ObjectStore.initial with
    objects := (ObjectStore.initial.objects.set 0 (some (object first))).set 1 (some (object .ready))
    differing := differing }

/-- R134: the ONCE entry leaves, and the entry after it is current. -/
theorem test_once : (pair.answerCell 31 .picture (pairStore .ready [])).lane
    = { pair with entries := [{ entry with id := 1, object := 1 }], current := some 1, cursor := 0 } := by
  decide +kernel

/-- R131: the FAULTED entry is skipped. -/
theorem test_skip : ({ pair with cursor := 0 }.answerCell 31 .picture (pairStore .faulted [])).lane
    = { pair with current := some 1, cursor := 1 } := by decide +kernel

/-- R133: a fetch that ends in FAULT sends ABANDON and leaves the visit. -/
theorem test_fault : (pair.answerCell 31 .picture (pairStore .ready [(2, 3), (2, 9)])).lane
    = { pair with current := some 1, cursor := 0 } := by decide +kernel

theorem witness_LanesSupplyFragments :
    ((carousel .ready .running).lane 31 .picture).currentEntry = some entry ∧
      (carousel .ready .running).store.objects[entry.object] = some (object .ready) ∧
      (carousel .faulted .running).store.objects[entry.object] = some (object .faulted) ∧
      ((carousel .faulted .running).lane 31 .picture).cursor = 1 ∧
      (carousel .ready .running).store.differing = [] ∧ (object .ready).declared = 40 ∧
      ((carousel .ready .running).lane 31 .picture).cursor + 1 = (40 + 31) / 32 ∧
      ((carousel .ready .running).lane 31 .picture).entries = [entry] ∧
      entry.repeats ≤ ((carousel .ready .running).lane 31 .picture).done + 1 ∧
      pair.currentEntry = some { entry with once := true } ∧ pair.cursor + 1 = (40 + 31) / 32 ∧
      pair.entries = [] ++ { entry with once := true } :: [{ entry with id := 1, object := 1 }] ∧
      (pair.entries.map CarouselEntry.id).Nodup ∧
      ((pairStore .faulted []).objects[(0 : Fin 128)].map StoredObject.state) = some .faulted ∧
      ((pairStore .faulted []).objects[(1 : Fin 128)].map StoredObject.state) = some .ready ∧
      groupKey (object .ready).pages (2 * pair.cursor) = 2 ∧
      (pairStore .ready [(2, 3), (2, 9)]).differs 2 = [3, 9] ∧
      (object .ready).declared ≤ 16 * (2 * pair.cursor + 1) ∧
      ((pairStore .ready [(2, 3), (2, 9)]).fetchFragment 0 pair.cursor).bad = true := by decide +kernel

theorem witness_GroupReadsByDamage :
    ObjectStore.initial.differs 32767 = [] ∧
      { ObjectStore.initial with differing := [(0, 127)] }.differs 0 = [127] ∧
      { ObjectStore.initial with differing := [(0, 128)] }.differs 0 = [128] ∧
      { ObjectStore.initial with differing := [(0, 127), (0, 128)] }.differs 0 = [127, 128] ∧
      Memory.wf ObjectStore.initial.memory = true ∧
      (object .ready).state = .ready := by decide +kernel

theorem witness_CarAddAndResume :
    Asked (asking (carousel .ready .held) 0x50 [31, 1, 15, 7, 1, 0]) 0x50 [31, 1, 15, 7, 1, 0] ∧
      LaneLaw (asking (carousel .ready .held) 0x50 [31, 1, 15, 7, 1, 0]) ∧
      (carousel .ready .held).services[(31 : Fin 32)] ≠ none ∧
      (carousel .ready .held).store.objects[(0 : Fin 128)] = some (object .ready) ∧
      (∀ f ∈ entriesInUse (carousel .ready .held).carousels, f.id ≠ 1) ∧
      (∀ j : Fin 256, j < 1 → ∃ f ∈ entriesInUse (carousel .ready .held).carousels, f.id = j) ∧
      ((carousel .ready .held).lane 31 .picture).entries = [] ++ entry :: [] ∧
      Asked (asking (carousel .ready .held) 0x50 [31, 1, 1, 0, 0, 0]) 0x50 [31, 1, 1, 0, 0, 0] ∧
      Asked (asking (carousel .ready .held) 0x53 [31, 2]) 0x53 [31, 2] ∧
      ((carousel .ready .held).lane 31 .picture).phase = .held ∧
      Asked (asking (carousel .ready .held) 0x53 [31, 1]) 0x53 [31, 1] ∧
      ((carousel .ready .held).lane 31 .text).phase ≠ .held :=
  ⟨asked _ _ _ (by decide +kernel), lanes_free (carousel_lanes _ _ (by decide)) _ _,
    by decide +kernel, by decide +kernel, by decide +kernel, by decide +kernel, by decide +kernel,
    asked _ _ _ (by decide +kernel), asked _ _ _ (by decide +kernel), by decide +kernel,
    asked _ _ _ (by decide +kernel), by decide +kernel⟩

theorem carousel_entries (x : ObjectState) (p : LanePhase) :
    entriesInUse (carousel x p).carousels = [entry] := by
  show entriesInUse (carousel .ready p).carousels = [entry]
  cases p <;> decide +kernel

/-- The small carousel state keeps the law of references. -/
theorem carousel_references (p : LanePhase) : ReferenceLaw (carousel .ready p) where
  ids := by rw [carousel_entries]; decide
  counts := by rw [carousel_entries]; cases p <;> decide +kernel
  named := by
    rw [carousel_entries]
    intro e he
    obtain rfl : e = entry := by simpa using he
    exact ⟨object .ready, by cases p <;> decide +kernel, by decide⟩

/-- The pages of the small carousel state are the first, which its object holds, and the free ones. -/
theorem carousel_pages (x : ObjectState) (p : LanePhase) : PageLaw (carousel x p) where
  pool := List.Pairwise.sublist (List.drop_sublist 1 _) List.pairwise_lt_range
  whole := by
    have e : (List.finRange 128).flatMap (carousel x .running).store.pagesOf = [0] := by
      cases x <;> decide +kernel
    have e' : (List.finRange 128).flatMap (carousel x p).store.pagesOf = [0] := e
    have f : (carousel x p).store.free = (List.range 1024).drop 1 := rfl
    rw [e', f]
    refine List.perm_append_comm.trans (List.Perm.of_eq ?_)
    decide +kernel

theorem witness_CarRemoveClearRead :
    Asked (asking (carousel .ready .running) 0x51 [0]) 0x51 [0] ∧
      LaneLaw (asking (carousel .ready .running) 0x51 [0]) ∧ ReferenceLaw (carousel .ready .running) ∧
      ((carousel .ready .running).lane 31 .picture).entries = [] ++ entry :: [] ∧
      (carousel .ready .running).store.objects[entry.object] = some (object .ready) ∧
      Asked (asking (carousel .ready .running) 0x52 [31, 2]) 0x52 [31, 2] ∧
      (carousel .ready .running).services[(31 : Fin 32)] ≠ none ∧
      Asked (asking (carousel .ready .running) 0x54 [31, 1]) 0x54 [31, 1] :=
  ⟨asked _ _ _ (by decide +kernel), lanes_free (carousel_lanes _ _ (by decide)) _ _,
    carousel_references _, by decide +kernel, by decide +kernel, asked _ _ _ (by decide +kernel),
    by decide +kernel, asked _ _ _ (by decide +kernel)⟩

theorem witness_ObjectOpenTakesAndClearsPages :
    Asked (asking (carousel .ready .running) 0x40 (2 :: be16 49152)) 0x40 (2 :: be16 49152) ∧
      (carousel .ready .running).store.objects[(1 : Fin 128)] = none ∧
      (∀ j : Fin 128, j < 1 → (carousel .ready .running).store.objects[j] ≠ none) ∧
      (49152 + 511) / 512 ≤ (carousel .ready .running).store.free.length ∧
      (ready.withStore { ObjectStore.initial with free := [] }).store.free.length < (1 + 511) / 512 ∧
      Asked (asking (ready.withStore { ObjectStore.initial with free := [] }) 0x40 [1, 0, 1]) 0x40 [1, 0, 1] :=
  ⟨asked _ _ _ (by decide +kernel), by decide +kernel, by decide +kernel, by decide +kernel,
    by decide +kernel, asked _ _ _ (by decide +kernel)⟩

/-- An object of 40 octets being loaded, with this many of them loaded. -/
def loading (loaded : Nat) : State :=
  ready.withStore
    { ObjectStore.initial with
      free := (List.range 1024).drop 1
      objects := ObjectStore.initial.objects.set 0
        (some
          { object .loading with
            loaded := loaded, tail := List.replicate (loaded % 16) 1, references := 0 }) }

theorem loading_pages (n : Nat) : PageLaw (loading n) where
  pool := List.Pairwise.sublist (List.drop_sublist 1 _) List.pairwise_lt_range
  whole := (carousel_pages .ready .empty).whole

theorem loading_objects (n : Nat) (h : n ≤ 40) : ObjectLaw (loading n) := by
  have key : ∀ o : Fin 128, ∀ x, (loading n).store.objects[o] = some x →
      x = { object .loading with
            loaded := n, tail := List.replicate (n % 16) 1, references := 0 } := by
    intro o x hx
    by_cases ho : o = 0
    · subst ho
      have e : (loading n).store.objects[(0 : Fin 128)] = some
          { object .loading with loaded := n, tail := List.replicate (n % 16) 1, references := 0 } := rfl
      rw [e] at hx
      exact (Option.some.inj hx).symm
    · have e : (loading n).store.objects = ObjectStore.initial.objects.set (0 : Fin 128)
          (some { object .loading with
            loaded := n, tail := List.replicate (n % 16) 1, references := 0 }) := rfl
      rw [e, set_get, if_neg ho] at hx
      simp [ObjectStore.initial] at hx
  refine ⟨?_, ?_, List.nodup_nil⟩
  · intro o x hx
    rw [key o x hx]
    refine ⟨show 1 ≤ 40 by decide, show 40 ≤ 49152 by decide, ?_, h⟩
    show [0].length = pagesFor 40
    decide
  · intro o x hx
    rw [key o x hx]
    simp [object]

theorem witness_ObjectLoadAndClose :
    Asked (asking (loading 24) 0x41 (1 :: be16 24 ++ List.replicate 16 9)) 0x41
        (1 :: be16 24 ++ List.replicate 16 9) ∧
      MemoryLaw (loading 24) ∧ PageLaw (loading 24) ∧ ObjectLaw (loading 24) ∧
      ((loading 24).store.objects[(0 : Fin 128)].map StoredObject.loaded) = some 24 ∧
      Asked (asking (loading 24) 0x42 [1]) 0x42 [1] ∧
      Asked (asking (loading 40) 0x42 [1]) 0x42 [1] ∧ ObjectLaw (loading 40) ∧
      ((loading 40).store.objects[(0 : Fin 128)].map StoredObject.loaded) = some 40 :=
  ⟨asked _ _ _ (by decide +kernel), rfl, loading_pages _, loading_objects _ (by decide),
    by decide +kernel,
    asked _ _ _ (by decide +kernel), asked _ _ _ (by decide +kernel), loading_objects _ (by decide),
    by decide +kernel⟩

theorem witness_ObjectDropFreesThePages :
    Asked (asking (carousel .ready .running) 0x43 [1, 1]) 0x43 [1, 1] ∧
      Asked (asking (carousel .ready .running) 0x43 [1, 0]) 0x43 [1, 0] ∧
      LaneLaw (carousel .ready .running) ∧ PageLaw (carousel .ready .running) ∧
      ReferenceLaw (carousel .ready .running) ∧
      (carousel .ready .running).store.objects[(0 : Fin 128)] = some (object .ready) ∧
      0 < (object .ready).references ∧
      (∀ e ∈ ((carousel .ready .running).lane 31 .picture).entries, e.object = 0) ∧
      pair.entries = [] ++ { entry with once := true } :: [{ entry with id := 1, object := 1 }] ∧
      pair.current = some entry.id ∧
      [{ entry with id := 1, object := 1 }].filter (fun e => decide (e.object ≠ 0))
        = { entry with id := 1, object := 1 } :: [] :=
  ⟨asked _ _ _ (by decide +kernel), asked _ _ _ (by decide +kernel), carousel_lanes _ _ (by decide),
    carousel_pages _ _, carousel_references _, by decide +kernel, by decide, by decide +kernel, rfl, rfl,
    by decide⟩

/-- R127: the current entry of a lane of two goes with its object, and its visit is owed an ABANDON. -/
theorem test_forced_drop_in_a_lane :
    ((after .objDrop
      (asking ((ready.withStore (pairStore .ready [])).setLane 31 .picture pair) 0x43 [1, 1])).lane 31 .picture)
      = { pair with
          entries := [{ entry with id := 1, object := 1 }], current := some 1, cursor := 0
          owed := some { object := 1, index := 1 } } := by decide +kernel

theorem witness_ObjectReadAndStoreStatus :
    Asked (asking (carousel .ready .running) 0x44 (1 :: be16 39 ++ be16 1024)) 0x44
        (1 :: be16 39 ++ be16 1024) ∧
      (carousel .ready .running).store.objects[(0 : Fin 128)] = some (object .ready) ∧
      (object .ready).state ≠ .loading ∧ 39 < (object .ready).declared ∧
      (carousel .ready .running).store.differing = [] ∧ Asked (asking ready 0x45 []) 0x45 [] :=
  ⟨asked _ _ _ (by decide +kernel), by decide +kernel, by decide, by decide, rfl,
    asked _ _ _ (by decide +kernel)⟩

theorem witness_StoreClear : Asked (asking ready 0x46 []) 0x46 [] := asked _ _ _ (by decide +kernel)

theorem witness_BitFaultChangesItsBits :
    ready.powered = true ∧ [0, 127, 128].Nodup ∧ MemoryLaw ready ∧ ready.store.differing.Nodup :=
  ⟨rfl, by decide, rfl, List.nodup_nil⟩

theorem content_valid : (content 1).Valid 1 := ⟨by decide, by decide, by decide, by decide⟩

theorem content_valid_any : (content 7).Valid 0 := ⟨by decide, by decide, by decide, by decide⟩

def writing : State :=
  withOperation (withSlot ready 15 { state := .writing (content 1), lock := .none })
    { kind := .write, slot := 15, timer := 0 }

def erasing : State :=
  withOperation (withSlot ready 15 { state := .erasing, lock := .none })
    { kind := .erase, slot := 15, timer := 0 }

def written (lock : Lock) : State :=
  withSlot ready 15 { state := .written (content 1).stored, lock := lock }

theorem written_content (lock : Lock) :
    (written lock).templates.slots[(15 : Fin 16)].state = .written (content 1).stored := rfl

theorem stored_check (c : AlertContent) :
    c.stored.toAlertContent = c ∧ c.stored.check = Config.templateCheck c.octets := ⟨rfl, rfl⟩

theorem witness_TemplateEraseAndWrite :
    Asked (asking ready 0x60 [15]) 0x60 [15] ∧ ready.templates.slots[(15 : Fin 16)].lock = .none ∧
      ready.templates.operation = none ∧ Asked (asking (written .fixed) 0x60 [15]) 0x60 [15] ∧
      (written .fixed).templates.slots[(15 : Fin 16)].lock ≠ .none ∧
      Asked (asking writing 0x60 [0]) 0x60 [0] ∧ writing.templates.operation ≠ none ∧
      Asked (asking ready 0x61 (15 :: (content 1).octets)) 0x61 (15 :: (content 1).octets) ∧
      (content 1).Valid 1 ∧
      ready.templates.slots[(15 : Fin 16)] = { state := .blank, lock := .none } ∧
      (written .none).templates.slots[(15 : Fin 16)].state ≠ .blank ∧
      erasing.templates.operation = some { kind := .erase, slot := 15, timer := 0 } ∧
      writing.templates.operation = some { kind := .write, slot := 15, timer := 0 } ∧
      (withOperation ready { kind := .erase, slot := 0, timer := 1 }).templates.operation
        = some { kind := .erase, slot := 0, timer := 1 } ∧
      writing.templates.slots[(15 : Fin 16)].state = .writing (content 1) ∧
      (content 1).stored.toAlertContent = content 1 ∧
      (content 1).stored.check = Config.templateCheck (content 1).octets :=
  ⟨asked _ _ _ (by decide +kernel), by decide +kernel, rfl, asked _ _ _ (by decide +kernel),
    by decide +kernel, asked _ _ _ (by decide +kernel), by decide +kernel,
    asked _ _ _ (by decide +kernel), content_valid, by decide +kernel,
    (by rw [written_content]; exact fun h => SlotState.noConfusion h), rfl, rfl, rfl, by decide +kernel,
    stored_check _⟩

theorem witness_TemplateLocksAndRead :
    Asked (asking (written .fixed) 0x62 [15, 1]) 0x62 [15, 1] ∧
      (written .fixed).templates.slots[(15 : Fin 16)].state.busy = false ∧
      Asked (asking (written .held) 0x62 [15, 2]) 0x62 [15, 2] ∧
      (written .held).templates.slots[(15 : Fin 16)].state = .written (content 1).stored ∧
      Asked (asking writing 0x62 [15, 2]) 0x62 [15, 2] ∧
      writing.templates.slots[(15 : Fin 16)].state = .writing (content 1) ∧
      Asked (asking ready 0x62 [15, 2]) 0x62 [15, 2] ∧
      ready.templates.slots[(15 : Fin 16)].state = .blank ∧
      Asked (asking writing 0x64 [0]) 0x64 [0] ∧ writing.templates.operation ≠ none ∧
      Asked (asking (written .held) 0x64 [15]) 0x64 [15] ∧
      (written .held).templates.operation = none :=
  ⟨asked _ _ _ (by decide +kernel), by decide +kernel, asked _ _ _ (by decide +kernel),
    written_content _, asked _ _ _ (by decide +kernel), by decide +kernel,
    asked _ _ _ (by decide +kernel), by decide +kernel, asked _ _ _ (by decide +kernel),
    by decide +kernel, asked _ _ _ (by decide +kernel), rfl⟩

theorem witness_TplUnlock :
    Asked (asking ready 0x63 [16]) 0x63 [16] ∧ 15 < (16 : Octet).toNat ∧
      Asked (asking (written .fixed) 0x63 [15]) 0x63 [15] ∧
      (written .fixed).templates.slots[(15 : Fin 16)].lock = .fixed ∧
      Asked (asking (written .held) 0x63 [15]) 0x63 [15] ∧
      (written .held).templates.slots[(15 : Fin 16)].lock ≠ .fixed :=
  ⟨asked _ _ _ (by decide +kernel), by decide, asked _ _ _ (by decide +kernel), by decide +kernel,
    asked _ _ _ (by decide +kernel), by decide +kernel⟩

/-- The octets of TRIG_SET for line 3 with the settings of lineConfig. -/
def lineBody (enabled edge mode : Octet) : Octets := [3, enabled, edge, mode, 0, 7, 0xFF, 0xFF, 255]

theorem lineConfig_valid (enabled : Bool) (edge : EdgeSetting) (mode : LineMode) (h : mode = .held → edge ≠ .both) :
    (lineConfig enabled edge mode).Valid :=
  ⟨⟨show (7 : Fin 8) ≠ 0 by decide, show (0xFFFF : BitVec 16) ≠ 0 by decide⟩, h,
    show 1 ≤ (255 : Octet) ∧ (255 : Octet) ≤ 255 by decide⟩

def cueConfig (raises : Bool) : CueConfig :=
  { enabled := true, port := 7, stream := none, raises := raises, source := SourceContent.initial
    segments := List.replicate 4
      { offset := 56, pattern := List.replicate 8 1, mask := List.replicate 8 0xFF } }

theorem cueConfig_valid (raises : Bool) : (cueConfig raises).Valid where
  source _ := ⟨show SourceContent.initial.level ≠ 0 by decide, show SourceContent.initial.regions ≠ 0 by decide⟩
  count := show 1 ≤ 4 ∧ 4 ≤ 4 by decide
  segments g h := by
    obtain rfl := List.eq_of_mem_replicate h
    decide

theorem witness_TriggerAndCueConfiguration :
    Asked (asking ready 0x68 (lineBody 1 3 1)) 0x68 (lineBody 1 3 1) ∧
      (lineConfig true .both .pulse).Valid ∧
      Asked (asking (withLine ready 3 (line (lineConfig false .falling .pulse) .low (some .low))) 0x68
        (lineBody 1 2 2)) 0x68 (lineBody 1 2 2) ∧
      (lineConfig true .falling .held).Valid ∧
      (line (lineConfig false .falling .pulse) .low (some .low)).active = false ∧
      Asked (asking (withLine ready 3 (line (lineConfig true .rising .held) .high (some .high))) 0x68
        (lineBody 1 1 2)) 0x68 (lineBody 1 1 2) ∧
      (line (lineConfig true .rising .held) .high (some .high)).active = true ∧
      Asked (asking ready 0x69 []) 0x69 [] ∧
      Asked (asking ready 0x6A ((cueConfig true).octets 3)) 0x6A ((cueConfig true).octets 3) ∧
      (cueConfig true).Valid ∧ (cueConfig false).Valid ∧ Asked (asking ready 0x6B [3]) 0x6B [3] :=
  ⟨asked _ _ _ (by decide +kernel), lineConfig_valid _ _ _ (by decide), asked _ _ _ (by decide +kernel),
    lineConfig_valid _ _ _ (by decide), by decide, asked _ _ _ (by decide +kernel), by decide,
    asked _ _ _ (by decide +kernel), asked _ _ _ (by decide +kernel), cueConfig_valid _,
    cueConfig_valid _, asked _ _ _ (by decide +kernel)⟩

/-- R153: a change away that has held for the filter time settles; an expiry that comes after a change
back and away again, or after a change while UNKNOWN, finds the timer restarted. -/
theorem test_filter_expiry :
    let away := withLine ready 3 (line (lineConfig true .rising .pulse) .high (some .low))
    let again := after (.triggerRawChange 3 .high) (after (.triggerRawChange 3 .low) away)
    let unknown := after (.triggerRawChange 3 .low) (withLine ready 3 (line (lineConfig true .rising .pulse) .high none))
    ([away, again, unknown].map fun s => (after (.filterTimerExpiry 3) s).lines[3].settled)
      = [some .high, some .low, none] := by decide +kernel

/-- R42, R49: an expiry that comes after a renegotiation restarted the timers does nothing. -/
theorem test_expiries_after_renegotiation :
    let s := carriedOut (withPort ready 7 (offering .offering 1 0 none)) 0x31 [7]
    ((after (.listenTimerExpiry 7) s).ports[7], (after (.offerWordPeriod 7) s).ports[7])
      = (s.ports[7], s.ports[7]) := by decide +kernel

theorem witness_RawChangesSettleAndTrigger :
    (withLine ready 3 (line (lineConfig true .rising .held) .high (some .low))).lines[(3 : Fin 4)]
        = line (lineConfig true .rising .held) .high (some .low) ∧
      (line (lineConfig true .rising .held) .high (some .low)).timer = some 0 ∧
      (TriggerLine.initial .low).timer ≠ some 0 ∧
      (PinLevel.low ≠ .high) ∧ (line (lineConfig true .falling .pulse) .low none).settled = none ∧
      (lineConfig true .both .pulse).edge = .both ∧ (lineConfig false .rising .pulse).enabled = false ∧
      ready.powered = true := by decide +kernel

theorem witness_written_mirror :
    { ready.templates with mirror := ready.templates.mirror.set 15 (.written (content 1).stored) }.mirror[(15 : Fin 16)]
      = .written (content 1).stored := rfl

theorem witness_SourceRequestsAndCueMatches :
    (withAlerts ready (full .inForce)).alerts.alerts.length = 8 ∧
      (∀ a ∈ (withAlerts ready (full .inForce)).alerts.alerts, a.origin ≠ .trigger 0) ∧
      (withAlerts ready (full .inForce)).alerts.makeRoom 2 = none ∧
      ((withAlerts ready (full .inForce)).alerts.makeRoom 3).isSome = true ∧
      ready.templates.mirror[(0 : Fin 16)] = .blank ∧
      { ready.templates with mirror := ready.templates.mirror.set 15 .damaged }.mirror[(15 : Fin 16)]
        = .damaged ∧
      ready.alerts.alerts.length < 8 ∧ ready.alerts.counter ≠ BitVec.allOnes 32 ∧
      { ready.alerts with counter := BitVec.allOnes 32 }.counter = BitVec.allOnes 32 ∧
      { alert 1 1 1 .inForce with origin := .cue 3 }.origin = .cue 3 ∧
      { alert 1 1 1 (.ending .expired 0) with origin := .cue 3 }.state ≠ .inForce := by decide +kernel

theorem full_law (x : AlertState) : AlertListLaw (withAlerts ready (full x)) where
  room := by cases x <;> exact Nat.le_refl 8
  numbers := by
    have : (withAlerts ready (full x)).alerts.alerts.map Alert.number = [1, 2, 3, 4, 5, 6, 7, 8] := rfl
    rw [this]; decide
  numbered := by
    intro a h
    have hm : a.number ∈ (withAlerts ready (full x)).alerts.alerts.map Alert.number :=
      List.mem_map_of_mem h
    have : (withAlerts ready (full x)).alerts.alerts.map Alert.number = [1, 2, 3, 4, 5, 6, 7, 8] := rfl
    rw [this] at hm
    intro e
    rw [e] at hm
    exact absurd hm (by decide)
  order := by
    have : (withAlerts ready (full x)).alerts.alerts.map Alert.stamp = [1, 2, 3, 4, 5, 6, 7, 8] := rfl
    rw [this]; decide
  reached := by
    intro a h
    have hm : a.stamp ∈ (withAlerts ready (full x)).alerts.alerts.map Alert.stamp :=
      List.mem_map_of_mem h
    have e : (withAlerts ready (full x)).alerts.alerts.map Alert.stamp = [1, 2, 3, 4, 5, 6, 7, 8] := rfl
    have c : (withAlerts ready (full x)).alerts.counter = 8 := rfl
    rw [e] at hm
    rw [c]
    revert hm
    generalize a.stamp = k
    intro hm
    simp only [List.mem_cons, List.not_mem_nil, or_false] at hm
    rcases hm with rfl | rfl | rfl | rfl | rfl | rfl | rfl | rfl <;> decide
  sources := by
    intro a ha b _ _ ho
    have hm : a.origin ∈ (withAlerts ready (full x)).alerts.alerts.map Alert.origin :=
      List.mem_map_of_mem ha
    have e : (withAlerts ready (full x)).alerts.alerts.map Alert.origin = List.replicate 8 .host := rfl
    rw [e] at hm
    exact absurd (List.eq_of_mem_replicate hm) ho

theorem empty_list_law : AlertListLaw ready :=
  ⟨by decide, by decide, (fun _ h => by cases h), by decide, (fun _ h => by cases h),
    fun _ h => by cases h⟩

/-- An IN_FORCE alert whose remaining time has reached 0. -/
def expiring : Alert := { alert 1 1 7 .inForce with remaining := 0 }

theorem expiring_law : AlertListLaw (withAlerts ready [expiring]) where
  room := by decide
  numbers := List.nodup_singleton _
  numbered a h := by obtain rfl : a = expiring := List.mem_singleton.mp h
                     decide
  order := List.pairwise_singleton _ _
  reached a h := by obtain rfl : a = expiring := List.mem_singleton.mp h
                    decide
  sources a ha b hb _ _ := by
    obtain rfl : a = expiring := List.mem_singleton.mp ha
    obtain rfl : b = expiring := List.mem_singleton.mp hb
    rfl

/-- R173: the millisecond in which the remaining time reaches 0 is followed by the alert's expiry. -/
theorem test_expiry_joins_the_list :
    (match step (withAlerts ready [alert 1 1 7 .inForce]) with
    | .next t => t.pending
    | _ => []) = [.alertTimerExpiry 1] := by decide +kernel

/-- R52: 250 ms without an arrival lose the link; an expiry after an arrival does not. -/
theorem test_link_expiry :
    ((after (.linkTimerExpiry 7) (withPort ready 7 { locked with linkTimer := some 0 })).ports[7].state,
      (after (.linkTimerExpiry 7)
        (withPort ready 7 { locked with linkTimer := some 0 }.heard)).ports[7].state)
      = (.listen, .locked) := by decide +kernel

/-- R70: a stall comes when the stall timer stands at 0, and an expiry after a pull is none. -/
theorem test_stall :
    (match step (working (placing (run none none) false 0) .idle) with
    | .next t => (t.pending, (after .stallTimerExpiry t).output.state,
        (after .stallTimerExpiry (after .framePull t)).output.state)
    | _ => ([], .waiting, .waiting)) = ([.stallTimerExpiry], .stalled, .running) := by decide +kernel

/-- The expiries of one millisecond, in the model's order (log 3). -/
theorem test_expiries_in_order :
    (match step (withLine (withPort (withOperation ready { kind := .erase, slot := 0, timer := 1 }) 7
        { locked with linkTimer := some 1, listenTimer := some 1, period := some 1 }) 2
        { line (lineConfig true .rising .pulse) .high none with timer := some 1 }) with
    | .next t => t.pending
    | _ => [])
      = [.offerWordPeriod 7, .listenTimerExpiry 7, .linkTimerExpiry 7, .filterTimerExpiry 2,
          .eraseEnd] := by decide +kernel

theorem test_expiry :
    (after (.alertTimerExpiry 1) (withAlerts ready [expiring])).alerts.alerts
      = [{ expiring with state := .ending .expired 3 }] := by decide +kernel

/-- R173: an expiry taken after a refresh finds time remaining, and the alert stays IN_FORCE. -/
theorem test_expiry_after_refresh :
    (after (.alertTimerExpiry 1)
      ((withAlerts ready [expiring]).withAlerts ((withAlerts ready [expiring]).alerts.refresh 1))).alerts.alerts
      = [{ expiring with remaining := 3600000 }] := by decide +kernel

theorem witness_AlertRaiseClearExpireList :
    Asked (asking ready 0x70 ([2, 0] ++ (content 7).octets)) 0x70 ([2, 0] ++ (content 7).octets) ∧
      (content 7).Valid 0 ∧ AlertListLaw ready ∧ ready.alerts.alerts.length < 8 ∧
      ready.alerts.counter ≠ BitVec.allOnes 32 ∧
      Asked (asking ready 0x70 ([1, 15] ++ List.replicate 249 0)) 0x70 ([1, 15] ++ List.replicate 249 0) ∧
      Asked (asking (withAlerts ready (full (.ending .cleared 0))) 0x71 [8]) 0x71 [8] ∧
      AlertListLaw (withAlerts ready (full (.ending .cleared 0))) ∧
      alert 8 8 6 .inForce ∈ (withAlerts ready (full (.ending .cleared 0))).alerts.alerts ∧
      alert 4 4 2 (.ending .cleared 0) ∈ (withAlerts ready (full (.ending .cleared 0))).alerts.alerts ∧
      (alert 8 8 6 .inForce).content.duration ≠ 0 ∧ (alert 8 8 6 .inForce).remaining ≠ 0 ∧
      expiring ∈ (withAlerts ready [expiring]).alerts.alerts ∧ expiring.remaining = 0 ∧
      AlertListLaw (withAlerts ready [expiring]) ∧ Asked (asking ready 0x72 []) 0x72 [] :=
  ⟨asked _ _ _ (by decide +kernel), content_valid_any, empty_list_law, by decide +kernel,
    by decide +kernel, asked _ _ _ (by decide +kernel), asked _ _ _ (by decide +kernel), full_law _,
    by decide +kernel, by decide +kernel, by decide, by decide, List.mem_singleton.mpr rfl, rfl, expiring_law,
    asked _ _ _ (by decide +kernel)⟩

theorem witness_FullListMakesRoom :
    AlertListLaw (withAlerts ready (full (.ending .cleared 2))) ∧
      (withAlerts ready (full (.ending .cleared 2))).alerts.alerts
        = (full .inForce).take 3 ++ alert 4 4 2 (.ending .cleared 2) :: (full .inForce).drop 4 ∧
      (full .inForce) = (full .inForce).take 6 ++ alert 7 7 2 .inForce :: (full .inForce).drop 7 ∧
      (∀ b ∈ (full .inForce).take 6, 2 ≤ b.content.level.val) ∧
      (∀ b ∈ (full .inForce).drop 7, 2 < b.content.level.val) ∧
      (withAlerts ready (full .inForce)).alerts.makeRoom 2 = none ∧
      ((withAlerts ready (full .inForce)).alerts.makeRoom 3).isSome = true ∧
      (withAlerts ready (full .inForce)).alerts.counter ≠ BitVec.allOnes 32 ∧
      (withAlerts ready (full .inForce)).alerts.alerts.length = 8 :=
  ⟨full_law _, by decide +kernel, by decide +kernel, by decide +kernel, by decide +kernel,
    by decide +kernel, by decide +kernel, by decide +kernel, by decide +kernel⟩

theorem witness_CoverageTakesTheHighestEarliest :
    (withService ready 31 dataService).services[(31 : Fin 32)] = some dataService ∧
      (alert 1 1 1 .inForce).state = .inForce ∧
      { content 1 with regions := 0x8000 }.regions &&& dataService.regions ≠ 0 ∧
      dataService.protection < (content 1).level ∧
      (content 1).regions &&& dataService.regions = 0 := by decide +kernel

theorem witness_DirectoryFillsEightSlots :
    ((full .inForce).take 4).length ≤ 4 ∧ 4 < (full .inForce).length ∧
      Directory.initial.mark = none ∧ { Directory.initial with mark := some 8 }.mark = some 8 ∧
      (rotationOf (Vector.replicate 8 Port.initial) (withService ready 31 dataService).services
        { entries := [{ service := 31, start := 0, length := 640, share := 640 }], number := 1
          countdown := 0, announcement := .none, staged := [], switched := true }) ≠ [] ∧
      0 < 7 := by decide +kernel

/-- The conditions that name the new, changed and marked items can be met by every directory. -/
theorem witness_marks (d : Directory) (switched : Bool) :
    (∀ x, changedItem d.rotation x = true ↔ ∃ c, contentsOf d.rotation x.1 = some c ∧ c ≠ x.2) ∧
      ∀ x, markedItem d.rotation switched d.restarted x = true ↔
        contentsOf d.rotation x.1 = none ∨ changedItem d.rotation x = true ∨
          (switched = true ∧ x.1.kind = .service) ∨ d.restarted = true := by
  refine ⟨fun x => ?_, fun x => ?_⟩
  · simp [changedItem, Option.any_eq_true]
  · simp [markedItem, or_assoc]

/-- A step from a state that keeps the law, for the laws a list of alerts and a port show. -/
theorem witness_AlertLawsKept :
    AlertListLaw (withAlerts ready (full .inForce)) ∧ AlertActiveLaw (withAlerts ready (full .inForce)) ∧
      ∃ t, step (withAlerts ready (full .inForce)) = .next t :=
  ⟨full_law _, by unfold AlertActiveLaw; decide +kernel, _, rfl⟩

theorem witness_TemplateLawKept : TemplateLaw (written .fixed) ∧ ∃ t, step (written .fixed) = .next t := by
  refine ⟨⟨?_, by decide +kernel, by decide +kernel, ?_, ?_, ?_, ?_⟩, _, rfl⟩
  · intro i c h
    by_cases hi : i = 15
    · subst hi
      rw [written_content] at h
      obtain rfl := SlotState.written.inj h
      rfl
    · have : ∀ j : Fin 16, j ≠ 15 → (written .fixed).templates.slots[j].state = .blank := by
        decide +kernel
      rw [this i hi] at h
      cases h
  · intro i _ h
    have : ∀ i : Fin 16, (written .fixed).templates.slots[i].state ≠ .erasing := by decide +kernel
    exact absurd h (this i)
  · intro i c _ h
    have : ∀ i : Fin 16, (written .fixed).templates.slots[i].state.busy = false := by decide +kernel
    have hb := this i
    rw [h] at hb
    cases hb
  · intro _ _ h; cases h
  · intro _ _ h; cases h

theorem witness_PortLawKept :
    PortLaw (withPort ready 7 locked) ∧ ∃ t, step (withPort ready 7 locked) = .next t :=
  ⟨⟨by decide +kernel, by decide +kernel, by decide +kernel⟩, _, rfl⟩

theorem one_entry_bank (e : PlanEntry) (h : 0 < e.length ∧ e.start + e.length ≤ 640 ∧ e.share ≤ e.length) :
    bankLaw [e] :=
  ⟨List.pairwise_singleton _ _, List.nodup_singleton _, by
    intro x hx
    obtain rfl : x = e := by simpa using hx
    exact h⟩

/-- One DATA service on air in one plan, with both banks alike. -/
def onAir : State :=
  (withService ready 31 dataService).withPlan
    { Plan.initial with
      active := [{ service := 31, start := 0, length := 640, share := 640 }]
      staged := [{ service := 31, start := 0, length := 640, share := 640 }]
      countdown := some 250 }

theorem onAir_service (i : Fin 32) (v : Service) (h : onAir.services[i] = some v) :
    i = 31 ∧ v = dataService := by
  by_cases hi : i = 31
  · subst hi
    have e : onAir.services[(31 : Fin 32)] = some dataService := by decide +kernel
    rw [e] at h
    exact ⟨rfl, (Option.some.inj h).symm⟩
  · have e : ∀ j : Fin 32, j ≠ 31 → onAir.services[j] = none := by decide +kernel
    rw [e i hi] at h
    cases h

theorem witness_PlanAndServiceLawsKept :
    PlanLaw onAir ∧ PlannedLaw onAir ∧ ServiceLaw onAir ∧ ∃ t, step onAir = .next t := by
  refine ⟨⟨one_entry_bank _ (by decide), one_entry_bank _ (by decide), ?_, by decide⟩, ?_, ⟨?_, ?_, ?_⟩,
    _, rfl⟩
  · intro c h
    obtain rfl : c = 250 := (Option.some.inj h).symm
    decide
  · intro e he
    obtain rfl : e = { service := 31, start := 0, length := 640, share := 640 } := by
      have hb : e ∈ [PlanEntry.mk 31 0 640 640] ++ [PlanEntry.mk 31 0 640 640] := he
      simpa using hb
    exact ⟨dataService, by decide +kernel, by decide⟩
  · intro i j v w hv hw _
    rw [(onAir_service i v hv).1, (onAir_service j w hw).1]
  · intro i j v w hv hw _ _
    rw [(onAir_service i v hv).1, (onAir_service j w hw).1]
  · intro i v hv _
    rw [(onAir_service i v hv).2]
    rfl

theorem witness_OutputAndControlLawsKept :
    OutputLaw (working (placing (run none none) false 0) .idle) ∧
      ControlLaw (asking ready 0x7C []) ∧ TransmitterLaw (asking ready 0x7C []) ∧
      ∃ t, step (asking ready 0x7C []) = .next t := by
  refine ⟨⟨?_, ?_, ?_⟩, ⟨by decide, by decide, by decide, by decide⟩, rfl, _, rfl⟩
  · intro h; cases h
  · intro _
    exact .inl ⟨frame, rfl, .inl ⟨frame, _, rfl⟩⟩
  · exact ⟨fun _ => rfl, fun _ => rfl⟩

theorem witness_StoreLawsKept :
    MemoryLaw (loading 24) ∧ PageLaw (loading 24) ∧ ObjectLaw (loading 24) ∧
      LaneLaw (carousel .ready .running) ∧ ReferenceLaw (carousel .ready .running) ∧
      (∃ t, step (loading 24) = .next t) ∧ ∃ t, step (carousel .ready .running) = .next t :=
  ⟨rfl, loading_pages _, loading_objects _ (by decide), carousel_lanes _ _ (by decide),
    carousel_references _, ⟨_, rfl⟩, _, rfl⟩

end Sys2Proof.Tests
end

section
/-! PROOFS. What a command can do to the plan unit and the service table, and the laws of the two that
every step keeps. -/

namespace Sys2Proof.Machine

/-! ### The plan unit and the service table as one part of the state -/

/-- The part of the state that the laws of the banks, the ids and the bindings look at. -/
structure PlanTables where
  plan : Plan
  services : ServiceTable

def State.planTables (s : State) : PlanTables := { plan := s.plan, services := s.services }

section Frame

variable (s : State)

@[simp] theorem State.planTables_plan : s.planTables.plan = s.plan := rfl
@[simp] theorem State.planTables_services : s.planTables.services = s.services := rfl
@[simp] theorem State.withPowered_planTables (x : Bool) :
    (s.withPowered x).planTables = s.planTables := rfl
@[simp] theorem State.withControl_planTables (x : Control) :
    (s.withControl x).planTables = s.planTables := rfl
@[simp] theorem State.withPorts_planTables (x : Vector Port 8) :
    (s.withPorts x).planTables = s.planTables := rfl
@[simp] theorem State.withCues_planTables (x : Vector CueFilter 4) :
    (s.withCues x).planTables = s.planTables := rfl
@[simp] theorem State.withLines_planTables (x : Vector TriggerLine 4) :
    (s.withLines x).planTables = s.planTables := rfl
@[simp] theorem State.withTemplates_planTables (x : TemplateStore) :
    (s.withTemplates x).planTables = s.planTables := rfl
@[simp] theorem State.withAlerts_planTables (x : AlertUnit) :
    (s.withAlerts x).planTables = s.planTables := rfl
@[simp] theorem State.withStore_planTables (x : ObjectStore) :
    (s.withStore x).planTables = s.planTables := rfl
@[simp] theorem State.withCarousels_planTables (x : Vector Carousel 32) :
    (s.withCarousels x).planTables = s.planTables := rfl
@[simp] theorem State.withDirectory_planTables (x : Directory) :
    (s.withDirectory x).planTables = s.planTables := rfl
@[simp] theorem State.withOutput_planTables (x : Output) :
    (s.withOutput x).planTables = s.planTables := rfl
@[simp] theorem State.withPending_planTables (x : List Instr) :
    (s.withPending x).planTables = s.planTables := rfl
@[simp] theorem State.withPlan_planTables (x : Plan) :
    (s.withPlan x).planTables = { s.planTables with plan := x } := rfl
@[simp] theorem State.withServices_planTables (x : ServiceTable) :
    (s.withServices x).planTables = { s.planTables with services := x } := rfl

@[simp] theorem State.choose_planTables : s.choose.planTables = s.planTables := rfl
@[simp] theorem State.raise_planTables (src : ReportSource) (d : Octets) :
    (s.raise src d).planTables = s.planTables := rfl
@[simp] theorem State.answer_planTables (r : Request) (a : Answer) :
    (s.answer r a).planTables = s.planTables := rfl
@[simp] theorem State.raiseAll_planTables (e : Events) : (s.raiseAll e).planTables = s.planTables :=
  s.raiseAll_field e State.planTables fun _ _ => rfl

end Frame

/-- Operations done one after the other leave the tables alone if each of them does. -/
theorem foldl_planTables {α : Type} {f : State → α → State}
    (hf : ∀ u x, (f u x).planTables = u.planTables) (l : List α) (s : State) :
    (l.foldl f s).planTables = s.planTables := by
  induction l generalizing s with
  | nil => rfl
  | cons x rest ih => rw [List.foldl_cons, ih, hf]

/-! ### What leaves the tables alone: object store and carousels -/

section Kept

variable (s : State)

@[simp] theorem State.setLane_planTables (i : Fin 32) (k : ObjectKind) (l : Lane) :
    (s.setLane i k l).planTables = s.planTables := rfl

@[simp] theorem State.removeEntry_planTables (i : Fin 32) (k : ObjectKind) (e : CarouselEntry) :
    (s.removeEntry i k e).planTables = s.planTables := rfl

@[simp] theorem State.removeId_planTables (id : Nat) : (s.removeId id).planTables = s.planTables := by
  unfold State.removeId
  split <;> simp

@[simp] theorem State.clearLane_planTables (i : Fin 32) (k : ObjectKind) :
    (s.clearLane i k).planTables = s.planTables :=
  foldl_planTables (fun u e => u.removeEntry_planTables i k e) _ s

@[simp] theorem State.addEntry_planTables (op : EntryOperand) (k : ObjectKind) (id : Fin 256) :
    (s.addEntry op k id).planTables = s.planTables := rfl

@[simp] theorem State.carouselCell_planTables (i : Fin 32) (first : Bool) :
    (s.carouselCell i first).1.planTables = s.planTables := by
  unfold State.carouselCell
  split <;> simp

theorem objOpen_planTables (b : Octets) : (objOpen b s).1.planTables = s.planTables := by
  unfold objOpen
  dsimp only
  repeat' split
  all_goals rfl

theorem objLoad_planTables (b : Octets) : (objLoad b s).1.planTables = s.planTables := by
  unfold objLoad
  dsimp only
  repeat' split
  all_goals rfl

theorem objClose_planTables (b : Octets) : (objClose b s).1.planTables = s.planTables := by
  unfold objClose
  repeat' split
  all_goals rfl

theorem objDrop_planTables (b : Octets) : (objDrop b s).1.planTables = s.planTables := by
  have removals (ids : List Nat) : (ids.foldl State.removeId s).planTables = s.planTables :=
    foldl_planTables State.removeId_planTables ids s
  unfold objDrop
  dsimp only
  repeat' split
  all_goals simp [removals]

theorem objRead_planTables (b : Octets) : (objRead b s).1.planTables = s.planTables := by
  unfold objRead
  dsimp only
  repeat' split
  all_goals simp

theorem carAdd_planTables (b : Octets) : (carAdd b s).1.planTables = s.planTables := by
  unfold carAdd
  repeat' split
  all_goals rfl

theorem carRemove_planTables (b : Octets) : (carRemove b s).1.planTables = s.planTables := by
  unfold carRemove
  split <;> rfl

theorem carClear_planTables (b : Octets) : (carClear b s).1.planTables = s.planTables := by
  unfold carClear
  repeat' split
  all_goals simp

theorem carResume_planTables (b : Octets) : (carResume b s).1.planTables = s.planTables := by
  unfold carResume
  repeat' split
  all_goals rfl

/-! ### Templates, alerts, trigger lines, cue filters -/

theorem tplErase_planTables (b : Octets) : (tplErase b s).1.planTables = s.planTables := by
  unfold tplErase
  repeat' split
  all_goals rfl

theorem tplWrite_planTables (b : Octets) : (tplWrite b s).1.planTables = s.planTables := by
  unfold tplWrite
  repeat' split
  all_goals rfl

theorem tplLock_planTables (b : Octets) : (tplLock b s).1.planTables = s.planTables := by
  unfold tplLock
  dsimp only
  repeat' split
  all_goals rfl

theorem tplUnlock_planTables (b : Octets) : (tplUnlock b s).1.planTables = s.planTables := by
  unfold tplUnlock
  repeat' split
  all_goals rfl

theorem eraseEnd_planTables : (eraseEnd s).planTables = s.planTables := by
  unfold eraseEnd
  split <;> rfl

theorem writeEnd_planTables : (writeEnd s).planTables = s.planTables := by
  unfold writeEnd
  split <;> rfl

@[simp] theorem State.endAlert_planTables (a : Alert) (reason : EndReason) :
    (s.endAlert a reason).planTables = s.planTables := rfl

@[simp] theorem State.releaseAlert_planTables (origin : Origin) :
    (s.releaseAlert origin).planTables = s.planTables := by
  unfold State.releaseAlert
  repeat' split
  all_goals rfl

@[simp] theorem State.admitFor_planTables (origin : Origin) (c : AlertContent) :
    (s.admitFor origin c).planTables = s.planTables := by
  unfold State.admitFor
  dsimp only
  split <;> simp

@[simp] theorem State.sourceRequest_planTables (origin : Origin) (c : SourceContent) :
    (s.sourceRequest origin c).planTables = s.planTables := by
  unfold State.sourceRequest State.sourceAdmission
  dsimp only
  repeat' split
  all_goals simp

theorem alertRaise_planTables (b : Octets) : (alertRaise b s).1.planTables = s.planTables := by
  unfold alertRaise
  dsimp only
  repeat' split
  all_goals simp

theorem alertClear_planTables (b : Octets) : (alertClear b s).1.planTables = s.planTables := by
  unfold alertClear
  repeat' split
  all_goals rfl

theorem alertTimerExpiry_planTables (n : Octet) : (alertTimerExpiry n s).planTables = s.planTables := by
  unfold alertTimerExpiry
  repeat' split
  all_goals rfl

@[simp] theorem State.alertTextCell_planTables (i : Fin 32) (hold : TextHold) (first : Bool) :
    (s.alertTextCell i hold first).1.planTables = s.planTables := rfl

@[simp] theorem State.trigger_planTables (n : Fin 4) (edge : Edge) (mode : LineMode) :
    (s.trigger n edge mode).planTables = s.planTables := by
  simp [State.trigger, State.raiseTrigger]

@[simp] theorem State.acceptedEdge_planTables (n : Fin 4) (edge : Edge) :
    (s.acceptedEdge n edge).planTables = s.planTables := by
  unfold State.acceptedEdge
  dsimp only
  repeat' split
  all_goals simp [State.raiseTrigger]

@[simp] theorem State.becomeActive_planTables (n : Fin 4) :
    (s.becomeActive n).planTables = s.planTables := by
  unfold State.becomeActive
  repeat' split
  all_goals simp

theorem filterTimerExpiry_planTables (n : Fin 4) :
    (filterTimerExpiry n s).planTables = s.planTables := by
  unfold filterTimerExpiry
  dsimp only
  repeat' split
  all_goals simp

theorem trigSet_planTables (b : Octets) : (trigSet b s).1.planTables = s.planTables := by
  unfold trigSet
  dsimp only
  repeat' split
  all_goals simp

theorem cueSet_planTables (b : Octets) : (cueSet b s).1.planTables = s.planTables := by
  unfold cueSet
  repeat' split
  all_goals rfl

theorem cueRead_planTables (b : Octets) : (cueRead b s).1.planTables = s.planTables := by
  unfold cueRead
  split <;> rfl

@[simp] theorem State.handOn_planTables (n : Fin 8) (k : Fin 4) (b : Octets) :
    (s.handOn n k b).planTables = s.planTables := by
  refine foldl_planTables (fun u m => ?_) _ s
  unfold State.examine
  dsimp only
  repeat' split
  all_goals simp

/-! ### Contributor ports -/

@[simp] theorem State.setPort_planTables (n : Fin 8) (p : Port) :
    (s.setPort n p).planTables = s.planTables := rfl

@[simp] theorem State.portEvent_planTables (n : Fin 8) (work : Port → Port × Events) :
    (s.portEvent n work).planTables = s.planTables := by simp [State.portEvent]

theorem portSet_planTables (b : Octets) : (portSet b s).1.planTables = s.planTables := by
  unfold portSet
  split <;> rfl

theorem portRenegotiate_planTables (b : Octets) : (portRenegotiate b s).1.planTables = s.planTables := by
  unfold portRenegotiate
  repeat' split
  all_goals rfl

theorem portRead_planTables (b : Octets) : (portRead b s).1.planTables = s.planTables := by
  unfold portRead
  split <;> rfl

theorem offerWordPeriod_planTables (n : Fin 8) : (offerWordPeriod n s).planTables = s.planTables := by
  unfold offerWordPeriod
  split <;> simp

theorem listenTimerExpiry_planTables (n : Fin 8) :
    (listenTimerExpiry n s).planTables = s.planTables := by
  unfold listenTimerExpiry
  split <;> simp

theorem linkTimerExpiry_planTables (n : Fin 8) : (linkTimerExpiry n s).planTables = s.planTables := by
  unfold linkTimerExpiry
  split <;> simp

@[simp] theorem State.takeFrame_planTables (n : Fin 8) (f : ContributionFrame) :
    (s.takeFrame n f).planTables = s.planTables := by
  unfold State.takeFrame
  dsimp only
  repeat' split
  all_goals simp [State.acceptFrame]

@[simp] theorem State.takeItem_planTables (n : Fin 8) (i : LineItem) :
    (s.takeItem n i).planTables = s.planTables := by
  cases i <;> simp [State.takeItem]

theorem lineOctets_planTables (n : Fin 8) (b : Octets) : (lineOctets n b s).planTables = s.planTables := by
  unfold lineOctets
  dsimp only
  split
  · rfl
  · exact foldl_planTables (fun u i => u.takeItem_planTables n i) _ _

@[simp] theorem State.takeStream_planTables (x : Stream) :
    (s.takeStream x).1.planTables = s.planTables := by
  unfold State.takeStream
  dsimp only
  split <;> rfl

/-! ### The assembler between its starts -/

@[simp] theorem State.setWork_planTables (b : FrameBuffer) :
    (s.setWork b).planTables = s.planTables := rfl

@[simp] theorem State.putBack_planTables (a : Assembly) : (s.putBack a).planTables = s.planTables := by
  simp [State.putBack]

@[simp] theorem State.repeatFrame_planTables : s.repeatFrame.planTables = s.planTables := rfl

theorem streamTake_planTables : (streamTake s).planTables = s.planTables := by
  unfold streamTake
  dsimp only
  repeat' split
  all_goals simp

theorem cellRequest_planTables : (cellRequest s).planTables = s.planTables := by
  unfold cellRequest
  dsimp only
  repeat' split
  all_goals simp

theorem alertCellRequest_planTables : (alertCellRequest s).planTables = s.planTables := by
  unfold alertCellRequest
  dsimp only
  repeat' split
  all_goals simp

theorem frameAssemblyComplete_planTables : (frameAssemblyComplete s).planTables = s.planTables := by
  unfold frameAssemblyComplete
  repeat' split
  all_goals simp

theorem stallTimerExpiry_planTables : (stallTimerExpiry s).planTables = s.planTables := by
  unfold stallTimerExpiry
  split <;> rfl

theorem outputTransmissionEnd_planTables : (outputTransmissionEnd s).planTables = s.planTables := rfl

theorem bitFault_planTables (page : Fin 1024) (group : Fin 32) (bits : List Nat) :
    (bitFault page group bits s).planTables = s.planTables := rfl

theorem triggerRawChange_planTables (n : Fin 4) (level : PinLevel) :
    (triggerRawChange n level s).planTables = s.planTables := rfl

/-! ### The control unit -/

theorem messageReceived_planTables (octets : List LineOctet) :
    (messageReceived octets s).planTables = s.planTables := rfl

theorem transmitterFree_planTables : (transmitterFree s).planTables = s.planTables := rfl

theorem unknownKind_planTables : (unknownKind s).planTables = s.planTables := by
  unfold unknownKind
  repeat' split
  all_goals rfl

theorem startingEnd_planTables : (startingEnd s).planTables = s.planTables := by
  unfold startingEnd
  repeat' split
  all_goals rfl

theorem reportSet_planTables (b : Octets) : (reportSet b s).1.planTables = s.planTables := by
  unfold reportSet
  split <;> rfl

end Kept

/-! ### Everything a command can do to the two -/

/-- The tables a command can leave, from those it found: one constructor for each way, with what its
checks have made sure of. -/
inductive PlanTables.Change (a b : PlanTables) : Prop
  /-- Nothing happens to them. -/
  | kept (after : b = a)
  /-- Power-on and hard reset (R15, R34). -/
  | cleared (after : b = { plan := Plan.initial, services := Vector.replicate 32 none })
  /-- SVC_SET past its checks (R6 to R8). -/
  | defined (i : Fin 32) (v : Service)
      (onAir : ∀ w, a.services[i] = some w → a.plan.onAir i = true ∨ a.plan.isStaged i = true →
        w.id = v.id ∧ w.kind = v.kind)
      (ids : ∀ j w, j ≠ i → a.services[j] = some w → w.id ≠ v.id)
      (bindings : ∀ j w, j ≠ i → a.services[j] = some w → v.binding ≠ none → w.binding ≠ v.binding)
      (data : v.kind = .data → v.binding = none)
      (after : b = { a with services := a.services.set i (some v) })
  /-- SVC_DROP of a record in no bank (R13). -/
  | dropped (i : Fin 32) (onAir : a.plan.onAir i = false) (staged : a.plan.isStaged i = false)
      (after : b = { a with services := a.services.set i none })
  /-- PLAN_EDIT with length 0 (R21). -/
  | removed (i : Fin 32)
      (after : b = { a with plan := { a.plan with staged := withoutService a.plan.staged i } })
  /-- PLAN_EDIT of a run past its checks (R20, R21). -/
  | staged (e : PlanEntry) (v : Service) (named : a.services[e.service] = some v)
      (length : 0 < e.length) (inside : e.start + e.length ≤ 640) (share : e.share ≤ e.length)
      (allowed : v.kind.allowsShare e.length e.share = true)
      (apart : ∀ x ∈ withoutService a.plan.staged e.service, e.overlaps x = false)
      (after : b =
        { a with
          plan := { a.plan with staged := insertEntry e (withoutService a.plan.staged e.service) } })
  /-- PLAN_COPY (R23). -/
  | copied (after : b = { a with plan := { a.plan with staged := a.plan.active } })
  /-- PLAN_COMMIT (R25). -/
  | committed (c : Nat) (least : 2 ≤ c) (greatest : c ≤ 250)
      (after : b = { a with plan := a.plan.commit c })
  /-- PLAN_WITHDRAW (R31). -/
  | withdrawn (after : b = { a with plan := a.plan.withdraw })
  /-- A new frame assembly start (R27, R28, R32). -/
  | started (after : b = { a with plan := a.plan.start.1 })
  /-- RESTART (R35). -/
  | restarted (after : b = { a with plan := a.plan.restart })

/-- What happens to the tables from one state to another. -/
def State.Moves (s t : State) : Prop := PlanTables.Change s.planTables t.planTables

/-- A step between states with the same tables. -/
theorem State.Moves.of_eq {s t : State} (h : t.planTables = s.planTables) : s.Moves t := .kept h

theorem event_moves {f : State → State} {s t : State} (work : ∀ u : State, u.Moves (f u))
    (h : event f s = .next t) : s.Moves t := by
  rcases event_next h with ⟨_, rfl⟩ | ⟨_, rfl⟩
  · exact .of_eq rfl
  · exact work s

theorem request_moves {c : Instr} {owner : Octets → State → State × Answer}
    (work : ∀ b (u : State), u.Moves (owner b u).1) (s : State) : s.Moves (request c owner s) := by
  rcases request_cases c owner s with h | ⟨r, rest, _, ⟨d, a, h, _⟩ | h⟩
  · exact .of_eq (by rw [h])
  · exact .of_eq (by rw [h]; rfl)
  · rw [h]
    exact work r.body (s.withControl rest)

/-- An event whose effect leaves the tables alone. -/
theorem event_kept {f : State → State} {s t : State} (work : ∀ u, (f u).planTables = u.planTables)
    (h : event f s = .next t) : s.Moves t := event_moves (fun u => .of_eq (work u)) h

/-- A request whose owner leaves the tables alone. -/
theorem request_kept {c : Instr} {owner : Octets → State → State × Answer} {s t : State}
    (work : ∀ u b, (owner b u).1.planTables = u.planTables) (h : event (request c owner) s = .next t) :
    s.Moves t := event_moves (request_moves fun b u => .of_eq (work u b)) h

/-! ### The service table's requests -/

theorem otherRecord_iff {t : ServiceTable} {i : Fin 32} {p : Service → Bool} :
    otherRecord t i p = true ↔ ∃ j w, j ≠ i ∧ t[j] = some w ∧ p w = true := by
  simp [otherRecord, Option.any_eq_true]

theorem otherRecord_false_iff {t : ServiceTable} {i : Fin 32} {p : Service → Bool} :
    otherRecord t i p = false ↔ ∀ j w, j ≠ i → t[j] = some w → p w = false := by
  rw [← Bool.not_eq_true, otherRecord_iff]
  grind

/-- The check of R7: a record in a bank would change its id or its kind. -/
theorem changesPlanned_iff {s : State} {i : Fin 32} {v : Service} :
    changesPlanned s i v = true ↔
      (s.plan.onAir i = true ∨ s.plan.isStaged i = true) ∧
        ∃ w, s.services[i] = some w ∧ (w.id ≠ v.id ∨ w.kind ≠ v.kind) := by
  simp [changesPlanned, Option.any_eq_true]

theorem changesPlanned_false_iff {s : State} {i : Fin 32} {v : Service} :
    changesPlanned s i v = false ↔
      ∀ w, s.services[i] = some w → s.plan.onAir i = true ∨ s.plan.isStaged i = true →
        w.id = v.id ∧ w.kind = v.kind := by
  rw [← Bool.not_eq_true, changesPlanned_iff]
  grind

/-- A body that SVC_SET accepts binds no DATA record (R6). -/
theorem serviceOperand_data {b : Octets} {i : Fin 32} {v : Service}
    (h : serviceOperand b = some (i, v)) (data : v.kind = .data) : v.binding = none := by
  simp only [serviceOperand, Option.bind_eq_bind, Option.bind_eq_some_iff] at h
  obtain ⟨_, _, _, _, kind, _, _, _, _, _, _, _, _, _, binding, _, h⟩ := h
  by_cases hb : kind = .data ∧ binding.isSome
  · simp [hb] at h
  · simp only [hb, if_false, Option.bind_eq_some_iff] at h
    obtain ⟨_, _, _, _, record⟩ := h
    cases record
    simpa [show kind = .data from data] using hb

theorem svcSet_moves (b : Octets) (s : State) : s.Moves (svcSet b s).1 := by
  unfold svcSet
  split
  · exact .of_eq rfl
  · rename_i i v hv
    split
    · exact .of_eq rfl
    · split
      · exact .of_eq rfl
      · split
        · exact .of_eq rfl
        · rename_i hPlanned hId hBound
          simp only [Bool.not_eq_true] at hPlanned hId hBound
          refine .defined i v (changesPlanned_false_iff.mp hPlanned) ?_ ?_ (serviceOperand_data hv) rfl
          · intro j w hj hw
            simpa using otherRecord_false_iff.mp hId j w hj hw
          · intro j w hj hw bound
            have hOther : otherRecord s.services i (fun r => decide (r.binding = v.binding)) = false := by
              simpa [Option.isSome_iff_ne_none.mpr bound] using hBound
            simpa using otherRecord_false_iff.mp hOther j w hj hw

@[simp] theorem State.dropService_planTables (s : State) (i : Fin 32) :
    (s.dropService i).planTables = { s.planTables with services := s.services.set i none } := by
  have cleared : ((s.clearLane i .text).clearLane i .picture).planTables = s.planTables := by simp
  have services := congrArg PlanTables.services cleared
  simp only [State.planTables_services] at services
  simp [State.dropService, services]

theorem svcDrop_moves (b : Octets) (s : State) : s.Moves (svcDrop b s).1 := by
  unfold svcDrop
  split
  · exact .of_eq rfl
  · rename_i i _
    split
    · exact .of_eq rfl
    · split
      · exact .of_eq rfl
      · rename_i hPlan
        simp only [Bool.or_eq_true, not_or, Bool.not_eq_true] at hPlan
        exact .dropped i hPlan.1 hPlan.2 (s.dropService_planTables i)

/-! ### The plan unit's requests -/

theorem planEdit_moves (b : Octets) (s : State) : s.Moves (planEdit b s).1 := by
  unfold planEdit
  dsimp only
  split
  · exact .of_eq rfl
  · split
    · exact .of_eq rfl
    · rename_i i _
      split
      · exact .removed i rfl
      · split
        · exact .of_eq rfl
        · rename_i hLength hRange
          split
          · exact .of_eq rfl
          · rename_i v hv
            split
            · exact .of_eq rfl
            · split
              · exact .of_eq rfl
              · rename_i hShare hApart
                exact .staged ⟨i, _, _, _⟩ v hv (by simp; omega) (by simp; omega) (by simp; omega)
                  (by simpa using hShare) (by simpa using hApart) rfl

theorem planCopy_moves (b : Octets) (s : State) : s.Moves (planCopy b s).1 := by
  unfold planCopy
  split
  · exact .of_eq rfl
  · exact .copied rfl

theorem rangeOperand_some_iff {least greatest n m : Nat} :
    rangeOperand least greatest n = some m ↔ (least ≤ n ∧ n ≤ greatest) ∧ n = m := by
  simp [rangeOperand]

theorem planCommit_moves (b : Octets) (s : State) : s.Moves (planCommit b s).1 := by
  unfold planCommit
  split
  · exact .of_eq rfl
  · split
    · exact .of_eq rfl
    · rename_i c hc
      obtain ⟨⟨least, greatest⟩, rfl⟩ := rangeOperand_some_iff.mp hc
      exact .committed _ least greatest rfl

theorem planWithdraw_moves (b : Octets) (s : State) : s.Moves (planWithdraw b s).1 := by
  unfold planWithdraw
  split
  · exact .of_eq rfl
  · split
    · exact .of_eq rfl
    · exact .withdrawn rfl

/-! ### Frame assembly starts, RESTART, power -/

@[simp] theorem State.startFrame_planTables (s : State) :
    s.startFrame.1.planTables = { s.planTables with plan := s.plan.start.1 } := by
  simp [State.startFrame]

theorem framePull_moves (s : State) : s.Moves (framePull s) := by
  unfold framePull
  split
  · exact .of_eq rfl
  · exact .started s.startFrame_planTables
  · exact .of_eq rfl
  · unfold State.answerPull
    split
    · exact .started s.startFrame_planTables
    · exact .started s.startFrame_planTables
    · split <;> exact .of_eq rfl

theorem restartRequest_moves (s : State) : s.Moves (restartRequest s) := by
  unfold restartRequest
  split
  · exact .of_eq rfl
  · split
    · exact .of_eq rfl
    · unfold restartReady
      split
      · exact .of_eq rfl
      · split
        · exact .of_eq rfl
        · exact .restarted rfl

theorem restartAfterAssembly_moves (s : State) : s.Moves (restartAfterAssembly s) := by
  unfold restartAfterAssembly
  split
  · exact .of_eq rfl
  · split
    · exact .of_eq rfl
    · exact .restarted rfl

/-- Power-on, hard reset and loss of power clear both tables. -/
theorem State.started_moves (s : State) (c : Control) (t : TemplateStore) (p : Bool) :
    s.Moves (s.started c t p) := .cleared rfl

/-- One millisecond leaves both alone. -/
@[simp] theorem State.tick_planTables (s : State) : s.tick.planTables = s.planTables := rfl

theorem execTriggerRawChange_moves {n : Fin 4} {level : PinLevel} {s t : State}
    (h : execTriggerRawChange n level s = .next t) : s.Moves t := by
  unfold execTriggerRawChange at h
  split at h
  · exact event_kept (triggerRawChange_planTables · n level) h
  · cases h
    exact .of_eq rfl

/-- Every command, by the lemma on its own work. -/
theorem exec_moves (c : Instr) {s t : State} (h : exec c s = .next t) : s.Moves t := by
  cases c with
  | powerOn straps => cases h; exact s.started_moves _ _ _
  | hardReset straps =>
    change Host.Outcome.next _ = _ at h
    split at h
    all_goals cases h
    · exact s.started_moves _ _ _
    · exact .of_eq rfl
  | lossOfPower => cases h; exact s.started_moves _ _ _
  | svcSet => exact event_moves (request_moves svcSet_moves) h
  | svcDrop => exact event_moves (request_moves svcDrop_moves) h
  | planEdit => exact event_moves (request_moves planEdit_moves) h
  | planCopy => exact event_moves (request_moves planCopy_moves) h
  | planCommit => exact event_moves (request_moves planCommit_moves) h
  | planWithdraw => exact event_moves (request_moves planWithdraw_moves) h
  | framePull => exact event_moves framePull_moves h
  | restart => exact event_moves restartRequest_moves h
  | restartAfterAssembly => exact event_moves restartAfterAssembly_moves h
  | svcRead | planRead | outputRead | directoryRead | storeStatus | storeClear | carRead | tplRead
  | trigRead | alertList | pendingRead | status | linkRead =>
    exact request_kept (fun _ _ => rfl) h
  | portSet => exact request_kept portSet_planTables h
  | portRenegotiate => exact request_kept portRenegotiate_planTables h
  | portRead => exact request_kept portRead_planTables h
  | objOpen => exact request_kept objOpen_planTables h
  | objLoad => exact request_kept objLoad_planTables h
  | objClose => exact request_kept objClose_planTables h
  | objDrop => exact request_kept objDrop_planTables h
  | objRead => exact request_kept objRead_planTables h
  | carAdd => exact request_kept carAdd_planTables h
  | carRemove => exact request_kept carRemove_planTables h
  | carClear => exact request_kept carClear_planTables h
  | carResume => exact request_kept carResume_planTables h
  | tplErase => exact request_kept tplErase_planTables h
  | tplWrite => exact request_kept tplWrite_planTables h
  | tplLock => exact request_kept tplLock_planTables h
  | tplUnlock => exact request_kept tplUnlock_planTables h
  | trigSet => exact request_kept trigSet_planTables h
  | cueSet => exact request_kept cueSet_planTables h
  | cueRead => exact request_kept cueRead_planTables h
  | alertRaise => exact request_kept alertRaise_planTables h
  | alertClear => exact request_kept alertClear_planTables h
  | reportSet => exact request_kept reportSet_planTables h
  | messageReceived octets => exact event_kept (messageReceived_planTables · octets) h
  | transmitterFree => exact event_kept transmitterFree_planTables h
  | outputTransmissionEnd => exact event_kept outputTransmissionEnd_planTables h
  | bitFault page group bits => exact event_kept (bitFault_planTables · page group bits) h
  | startingEnd => exact event_kept startingEnd_planTables h
  | unknownKind => exact event_kept unknownKind_planTables h
  | streamTake => exact event_kept streamTake_planTables h
  | cellRequest => exact event_kept cellRequest_planTables h
  | alertCellRequest => exact event_kept alertCellRequest_planTables h
  | frameAssemblyComplete => exact event_kept frameAssemblyComplete_planTables h
  | stallTimerExpiry => exact event_kept stallTimerExpiry_planTables h
  | offerWordReceived n octets => exact event_kept (lineOctets_planTables · n octets) h
  | contributionFrame n octets => exact event_kept (lineOctets_planTables · n octets) h
  | offerWordPeriod n => exact event_kept (offerWordPeriod_planTables · n) h
  | listenTimerExpiry n => exact event_kept (listenTimerExpiry_planTables · n) h
  | linkTimerExpiry n => exact event_kept (linkTimerExpiry_planTables · n) h
  | triggerRawChange n level => exact execTriggerRawChange_moves h
  | filterTimerExpiry n => exact event_kept (filterTimerExpiry_planTables · n) h
  | alertTimerExpiry n => exact event_kept (alertTimerExpiry_planTables · n) h
  | eraseEnd => exact event_kept eraseEnd_planTables h
  | writeEnd => exact event_kept writeEnd_planTables h

theorem step_moves {s t : State} (h : step s = .next t) : s.Moves t := by
  unfold step at h
  split at h
  · cases h
    split <;> exact .of_eq rfl
  · rename_i c rest _
    exact exec_moves c (s := s.withPending rest) h

/-! ### What the banks' operations keep (R16, R17) -/

theorem bankNames_iff {bank : List PlanEntry} {i : Fin 32} :
    bankNames bank i = true ↔ ∃ e ∈ bank, e.service = i := by
  simp [bankNames]

theorem mem_withoutService {bank : List PlanEntry} {i : Fin 32} {e : PlanEntry} :
    e ∈ withoutService bank i ↔ e ∈ bank ∧ e.service ≠ i := by
  simp [withoutService]

theorem insertEntry_perm (e : PlanEntry) (bank : List PlanEntry) : (insertEntry e bank).Perm (e :: bank) := by
  induction bank with
  | nil => exact .refl _
  | cons x rest ih =>
    unfold insertEntry
    split
    · exact .refl _
    · exact (ih.cons x).trans (.swap e x rest)

theorem mem_insertEntry {e x : PlanEntry} {bank : List PlanEntry} :
    x ∈ insertEntry e bank ↔ x = e ∨ x ∈ bank := by
  rw [(insertEntry_perm e bank).mem_iff, List.mem_cons]

theorem bankLaw_nil : bankLaw [] := ⟨.nil, .nil, by simp⟩

theorem bankLaw_withoutService {bank : List PlanEntry} (h : bankLaw bank) (i : Fin 32) :
    bankLaw (withoutService bank i) := by
  obtain ⟨apart, single, inside⟩ := h
  exact ⟨apart.filter _, single.sublist (List.filter_sublist.map _),
    fun e he => inside e (mem_withoutService.mp he).1⟩

/-- An entry that shares no cell with a bank's finds its place in it. -/
theorem insertEntry_pairwise {e : PlanEntry} {bank : List PlanEntry}
    (apart : bank.Pairwise fun a b => a.start + a.length ≤ b.start)
    (clear : ∀ x ∈ bank, e.overlaps x = false) (filled : ∀ x ∈ bank, 0 < x.length) (he : 0 < e.length) :
    (insertEntry e bank).Pairwise fun a b => a.start + a.length ≤ b.start := by
  induction bank with
  | nil => exact List.pairwise_singleton _ _
  | cons x rest ih =>
    obtain ⟨first, others⟩ := List.pairwise_cons.mp apart
    have hx : e.overlaps x = false := clear x (by simp)
    have hpos : 0 < x.length := filled x (by simp)
    simp only [PlanEntry.overlaps, decide_eq_false_iff_not, not_and, not_lt] at hx
    unfold insertEntry
    split
    · rename_i before
      have behind : e.start + e.length ≤ x.start := hx (by omega)
      refine List.pairwise_cons.mpr ⟨fun y hy => ?_, apart⟩
      rcases List.mem_cons.mp hy with rfl | hy
      · exact behind
      · have := first y hy
        omega
    · rename_i after
      have ahead : x.start + x.length ≤ e.start := by omega
      refine List.pairwise_cons.mpr ⟨fun y hy => ?_, ih others (fun y hy => clear y (by simp [hy]))
        fun y hy => filled y (by simp [hy])⟩
      rcases mem_insertEntry.mp hy with rfl | hy
      · exact ahead
      · exact first y hy

theorem bankLaw_insertEntry {e : PlanEntry} {bank : List PlanEntry} (h : bankLaw bank)
    (new : ∀ x ∈ bank, x.service ≠ e.service) (clear : ∀ x ∈ bank, e.overlaps x = false)
    (length : 0 < e.length) (inside : e.start + e.length ≤ 640) (share : e.share ≤ e.length) :
    bankLaw (insertEntry e bank) := by
  obtain ⟨apart, single, ranges⟩ := h
  refine ⟨insertEntry_pairwise apart clear (fun x hx => (ranges x hx).1) length, ?_, fun x hx => ?_⟩
  · rw [((insertEntry_perm e bank).map _).nodup_iff, List.map_cons, List.nodup_cons]
    exact ⟨by simpa using new, single⟩
  · rcases mem_insertEntry.mp hx with rfl | hx
    · exact ⟨length, inside, share⟩
    · exact ranges x hx

/-! ### The plan's law (R16, R17, R19, R32) -/

/-- The law of the banks, the countdown and the withdrawals, as one on the plan. -/
structure Plan.Lawful (p : Plan) : Prop where
  active : bankLaw p.active
  staged : bankLaw p.staged
  counting : ∀ c, p.countdown = some c → 1 ≤ c ∧ c ≤ 250
  withdrawn : p.withdrawn ≤ 4

theorem planLaw_iff (s : State) : PlanLaw s ↔ s.plan.Lawful :=
  ⟨fun ⟨a, b, c, d⟩ => ⟨a, b, c, d⟩, fun ⟨a, b, c, d⟩ => ⟨a, b, c, d⟩⟩

theorem Plan.initial_lawful : Plan.initial.Lawful :=
  { active := bankLaw_nil, staged := bankLaw_nil, counting := nofun, withdrawn := Nat.zero_le _ }

/-- The countdown either falls and stays above 0, or ends in the switch. -/
theorem Plan.Lawful.count {p : Plan} (h : p.Lawful) : p.count.1.Lawful := by
  unfold Plan.count
  split
  · exact h
  · rename_i c hc
    split
    · exact { active := h.staged, staged := h.staged, counting := nofun, withdrawn := h.withdrawn }
    · refine { h with counting := fun d hd => ?_ }
      have := h.counting c hc
      cases hd
      omega

theorem Plan.Lawful.age {p : Plan} (h : p.Lawful) : p.age.Lawful :=
  { h with withdrawn := (Nat.sub_le _ _).trans h.withdrawn }

theorem Plan.Lawful.start {p : Plan} (h : p.Lawful) : p.start.1.Lawful := h.count.age

theorem PlanTables.Change.keeps_lawful {a b : PlanTables} (h : a.Change b) (ha : a.plan.Lawful) :
    b.plan.Lawful := by
  cases h with
  | kept after | defined _ _ _ _ _ _ after | dropped _ _ _ after => subst after; exact ha
  | cleared after => subst after; exact Plan.initial_lawful
  | removed i after => subst after; exact { ha with staged := bankLaw_withoutService ha.staged i }
  | staged e v named length inside share allowed apart after =>
    subst after
    exact { ha with
      staged := bankLaw_insertEntry (bankLaw_withoutService ha.staged e.service)
        (fun x hx => (mem_withoutService.mp hx).2) apart length inside share }
  | copied after => subst after; exact { ha with staged := ha.active }
  | committed c least greatest after =>
    subst after
    refine { ha with counting := fun d hd => ?_, withdrawn := Nat.zero_le _ }
    cases hd
    omega
  | withdrawn after => subst after; exact { ha with counting := nofun, withdrawn := Nat.le_refl _ }
  | started after => subst after; exact ha.start
  | restarted after => subst after; exact { ha with counting := nofun, withdrawn := Nat.zero_le _ }

/-! ### The records named in a bank (R5, R17) -/

/-- The record an entry names is DEFINED, with a kind that allows the entry's share. -/
def PlanEntry.Served (t : ServiceTable) (e : PlanEntry) : Prop :=
  ∃ v, t[e.service] = some v ∧ v.kind.allowsShare e.length e.share = true

/-- The law of the records named, bank by bank. -/
structure PlanTables.Planned (a : PlanTables) : Prop where
  active : ∀ e ∈ a.plan.active, e.Served a.services
  staged : ∀ e ∈ a.plan.staged, e.Served a.services

theorem plannedLaw_iff (s : State) : PlannedLaw s ↔ s.planTables.Planned := by
  constructor
  · exact fun h => ⟨fun e he => h e (List.mem_append_left _ he), fun e he => h e (List.mem_append_right _ he)⟩
  · rintro ⟨active, staged⟩ e he
    exact (List.mem_append.mp he).elim (active e) (staged e)

/-- Starting a frame moves entries from the STAGED bank at most. -/
theorem Plan.start_banks (p : Plan) :
    (p.start.1.active = p.active ∨ p.start.1.active = p.staged) ∧ p.start.1.staged = p.staged := by
  unfold Plan.start Plan.count
  dsimp only
  split
  · exact ⟨.inl rfl, rfl⟩
  · split
    · exact ⟨.inr rfl, rfl⟩
    · exact ⟨.inl rfl, rfl⟩

/-- A record put in place of one of the same kind serves the entries that one served. -/
theorem PlanEntry.Served.set {t : ServiceTable} {e : PlanEntry} {i : Fin 32} {v : Service}
    (h : e.Served t) (same : e.service = i → ∀ w, t[i] = some w → w.kind = v.kind) :
    e.Served (t.set i (some v)) := by
  obtain ⟨w, hw, allowed⟩ := h
  by_cases hi : e.service = i
  · refine ⟨v, by rw [set_get, if_pos hi], ?_⟩
    rw [← same hi w (hi ▸ hw)]
    exact allowed
  · exact ⟨w, by rw [set_get, if_neg hi, hw], allowed⟩

/-- An index that an entry does not name can lose its record. -/
theorem PlanEntry.Served.drop {t : ServiceTable} {e : PlanEntry} {i : Fin 32} (h : e.Served t)
    (other : e.service ≠ i) : e.Served (t.set i none) := by
  obtain ⟨w, hw, allowed⟩ := h
  exact ⟨w, by rw [set_get, if_neg other, hw], allowed⟩

theorem service_ne_of_bankNames {bank : List PlanEntry} {i : Fin 32} {e : PlanEntry}
    (h : bankNames bank i = false) (he : e ∈ bank) : e.service ≠ i := fun hi => by
  have := bankNames_iff.mpr ⟨e, he, hi⟩
  simp [h] at this

theorem PlanTables.Change.keeps_planned {a b : PlanTables} (h : a.Change b) (ha : a.Planned) :
    b.Planned := by
  cases h with
  | kept after | committed _ _ _ after | withdrawn after | restarted after =>
    subst after; exact ⟨ha.active, ha.staged⟩
  | cleared after => subst after; exact ⟨nofun, nofun⟩
  | defined i v onAir _ _ _ after =>
    subst after
    exact ⟨fun e he => (ha.active e he).set fun hi w hw =>
        (onAir w hw (.inl (bankNames_iff.mpr ⟨e, he, hi⟩))).2,
      fun e he => (ha.staged e he).set fun hi w hw =>
        (onAir w hw (.inr (bankNames_iff.mpr ⟨e, he, hi⟩))).2⟩
  | dropped i onAir staged after =>
    subst after
    exact ⟨fun e he => (ha.active e he).drop (service_ne_of_bankNames onAir he),
      fun e he => (ha.staged e he).drop (service_ne_of_bankNames staged he)⟩
  | removed i after =>
    subst after
    exact ⟨ha.active, fun e he => ha.staged e (mem_withoutService.mp he).1⟩
  | staged e v named _ _ _ allowed _ after =>
    subst after
    refine ⟨ha.active, fun x hx => ?_⟩
    rcases mem_insertEntry.mp hx with rfl | hx
    · exact ⟨v, named, allowed⟩
    · exact ha.staged x (mem_withoutService.mp hx).1
  | copied after => subst after; exact ⟨ha.active, ha.active⟩
  | started after =>
    subst after
    obtain ⟨active, staged⟩ := a.plan.start_banks
    constructor
    · rcases active with active | active
      · simpa only [active] using ha.active
      · simpa only [active] using ha.staged
    · simpa only [staged] using ha.staged

/-! ### Ids and bindings (R2, R3) -/

/-- The law of ids and bindings, as one on the service table. -/
structure ServicesLawful (t : ServiceTable) : Prop where
  ids : ∀ i j : Fin 32, ∀ v w, t[i] = some v → t[j] = some w → v.id = w.id → i = j
  bindings : ∀ i j : Fin 32, ∀ v w, t[i] = some v → t[j] = some w →
    v.binding ≠ none → v.binding = w.binding → i = j
  kinds : ∀ i : Fin 32, ∀ v, t[i] = some v → v.kind = .data → v.binding = none

theorem serviceLaw_iff (s : State) : ServiceLaw s ↔ ServicesLawful s.services :=
  ⟨fun ⟨a, b, c⟩ => ⟨a, b, c⟩, fun ⟨a, b, c⟩ => ⟨a, b, c⟩⟩

/-- What the table holds after a record was defined. -/
theorem set_some_eq_some_iff {t : ServiceTable} {i j : Fin 32} {v w : Service} :
    (t.set i (some v))[j] = some w ↔ (j = i ∧ v = w) ∨ (j ≠ i ∧ t[j] = some w) := by
  rw [set_get]
  split <;> simp [*]

/-- What it holds after one was dropped. -/
theorem set_none_eq_some_iff {t : ServiceTable} {i j : Fin 32} {w : Service} :
    (t.set i none)[j] = some w ↔ j ≠ i ∧ t[j] = some w := by
  rw [set_get]
  split <;> simp [*]

theorem ServicesLawful.empty : ServicesLawful (Vector.replicate 32 none) := by
  constructor <;> simp

theorem ServicesLawful.drop {t : ServiceTable} (h : ServicesLawful t) (i : Fin 32) :
    ServicesLawful (t.set i none) := by
  have held (j : Fin 32) (w : Service) (hw : (t.set i none)[j] = some w) : t[j] = some w :=
    (set_none_eq_some_iff.mp hw).2
  exact ⟨fun j k v w hv hw => h.ids j k v w (held j v hv) (held k w hw),
    fun j k v w hv hw => h.bindings j k v w (held j v hv) (held k w hw),
    fun j v hv => h.kinds j v (held j v hv)⟩

theorem ServicesLawful.define {t : ServiceTable} (h : ServicesLawful t) {i : Fin 32} {v : Service}
    (ids : ∀ j w, j ≠ i → t[j] = some w → w.id ≠ v.id)
    (bindings : ∀ j w, j ≠ i → t[j] = some w → v.binding ≠ none → w.binding ≠ v.binding)
    (data : v.kind = .data → v.binding = none) : ServicesLawful (t.set i (some v)) := by
  refine ⟨fun j k x y hx hy same => ?_, fun j k x y hx hy bound same => ?_, fun j x hx => ?_⟩
  · rcases set_some_eq_some_iff.mp hx with ⟨rfl, rfl⟩ | ⟨hj, oldx⟩ <;>
      rcases set_some_eq_some_iff.mp hy with ⟨rfl, rfl⟩ | ⟨hk, oldy⟩
    · rfl
    · exact absurd same.symm (ids k y hk oldy)
    · exact absurd same (ids j x hj oldx)
    · exact h.ids j k x y oldx oldy same
  · rcases set_some_eq_some_iff.mp hx with ⟨rfl, rfl⟩ | ⟨hj, oldx⟩ <;>
      rcases set_some_eq_some_iff.mp hy with ⟨rfl, rfl⟩ | ⟨hk, oldy⟩
    · rfl
    · exact absurd same.symm (bindings k y hk oldy bound)
    · exact absurd same (bindings j x hj oldx (same ▸ bound))
    · exact h.bindings j k x y oldx oldy bound same
  · rcases set_some_eq_some_iff.mp hx with ⟨rfl, rfl⟩ | ⟨_, oldx⟩
    · exact data
    · exact h.kinds j x oldx

theorem PlanTables.Change.keeps_services {a b : PlanTables} (h : a.Change b)
    (ha : ServicesLawful a.services) : ServicesLawful b.services := by
  cases h with
  | defined i v _ ids bindings data after => subst after; exact ha.define ids bindings data
  | dropped i _ _ after => subst after; exact ha.drop i
  | cleared after => subst after; exact .empty
  | kept after | removed _ after | staged _ _ _ _ _ _ _ _ after | copied after | committed _ _ _ after
  | withdrawn after | started after | restarted after => subst after; exact ha

end Sys2Proof.Machine

open Sys2Proof Sys2Proof.Machine

/-- Settles O57: each law through the list of everything a step can do to the two tables. -/
theorem planAndServiceLawsKept : Obligations.PlanAndServiceLawsKept := by
  intro s t h
  have moves : s.planTables.Change t.planTables := step_moves h
  rw [planLaw_iff, planLaw_iff, plannedLaw_iff, plannedLaw_iff, serviceLaw_iff, serviceLaw_iff]
  exact ⟨moves.keeps_lawful, fun _ => moves.keeps_planned, moves.keeps_services⟩

end

section
/-! PROOFS. The values of the part at power-on and hard reset, and the laws there. -/

namespace Sys2Proof.Machine

/-! ### The values at reset, block by block -/

theorem vector_replicate_get {α : Type} {n : Nat} (x : α) (i : Fin n) :
    (Vector.replicate n x)[i] = x := by simp

/-- The report table at reset: every record cleared at its default level (R193). -/
theorem Control.initial_reports (straps : BitVec 2) (cause : StartCause) :
    (Control.initial straps cause).reports = mapTable ReportRecord.cleared Control.defaultLevels := rfl

theorem Control.initial_report (straps : BitVec 2) (cause : StartCause) (i : Fin 24) :
    (Control.initial straps cause).reports[i] = ReportRecord.cleared Control.defaultLevels[i] := by
  rw [Control.initial_reports, mapTable_get]

theorem ObjectStore.initial_free : ObjectStore.initial.free = List.range 1024 := by
  simp only [ObjectStore.initial]

theorem State.started_lane (s : State) (c : Control) (t : TemplateStore) (p : Bool) (i : Fin 32)
    (k : ObjectKind) : (s.started c t p).lane i k = Lane.initial := by
  cases k <;> simp [State.lane, State.started, Carousel.initial, Carousel.lane]

/-- POWER_ON and HARD_RESET of a part with power are the same event but for the cause. -/
theorem exec_start {c : Instr} {straps : BitVec 2} {cause : StartCause} {s : State}
    (h : (c = .powerOn straps ∧ cause = .powerOn) ∨
      (c = .hardReset straps ∧ cause = .hardReset ∧ s.powered = true)) :
    exec c s = .next (s.started (Control.initial straps cause) s.templates.startUp true) := by
  rcases h with ⟨rfl, rfl⟩ | ⟨rfl, rfl, hp⟩
  · rfl
  · simp [exec, execHardReset, hp]

/-! ### The laws at reset -/

theorem reset_port (n : Fin 8) : State.reset.ports[n] = Port.initial := vector_replicate_get _ n

theorem reset_slot (i : Fin 16) : State.reset.templates.slots[i] = { state := .blank, lock := .none } :=
  vector_replicate_get _ i

theorem reset_free : State.reset.store.free = List.range 1024 := ObjectStore.initial_free

theorem reset_object (o : Fin 128) : State.reset.store.objects[o] = none := vector_replicate_get _ o

theorem reset_lane (i : Fin 32) (k : ObjectKind) : State.reset.lane i k = Lane.initial :=
  State.started_lane State.reset _ _ _ i k

theorem reset_entriesInUse : entriesInUse State.reset.carousels = [] := by
  simp [entriesInUse, State.reset, Carousel.initial, Lane.initial]

theorem reset_alertListLaw : AlertListLaw State.reset where
  room := Nat.zero_le _
  numbers := .nil
  numbered := nofun
  order := .nil
  reached := nofun
  sources := nofun

theorem reset_templateLaw : TemplateLaw State.reset where
  checked i c h := by rw [reset_slot] at h; cases h
  fixed i h := by rw [reset_slot] at h; cases h
  locked i h := by rw [reset_slot] at h; exact absurd rfl h
  erasing i _ h := by rw [reset_slot] at h; cases h
  writing i c _ h := by rw [reset_slot] at h; cases h
  eraseRecorded := nofun
  writeRecorded := nofun

theorem reset_portLaw : PortLaw State.reset where
  bare n _ := by
    rw [reset_port]
    exact ⟨rfl, rfl, fun k => vector_replicate_get _ k⟩
  depth n k := by
    rw [reset_port]
    simp [Port.initial]
  closing n h := by rw [reset_port] at h; cases h

theorem reset_controlLaw : ControlLaw State.reset where
  queue := Nat.zero_le _
  full := Nat.zero_le _
  one := Nat.zero_le _
  waits := nofun

theorem reset_outputLaw : OutputLaw State.reset where
  waiting _ := ⟨rfl, rfl, rfl⟩
  pulled h := absurd rfl h
  timing := by decide

theorem laneLaw_initial : laneLaw Lane.initial where
  empty _ := rfl
  current h := absurd rfl h
  ids := .nil

theorem reset_pagesOf (o : Fin 128) : State.reset.store.pagesOf o = [] := by
  rw [ObjectStore.pagesOf, reset_object]

theorem reset_referencesTo (o : Fin 128) : State.reset.store.referencesTo o = 0 := by
  rw [ObjectStore.referencesTo, reset_object]

theorem reset_pageLaw : PageLaw State.reset where
  pool := reset_free ▸ List.pairwise_lt_range
  whole := by
    rw [reset_free, List.flatMap_eq_nil_iff.mpr fun o _ => reset_pagesOf o, List.append_nil]

theorem reset_objectLaw : ObjectLaw State.reset where
  sized o x h := by rw [reset_object] at h; cases h
  tails o x h := by rw [reset_object] at h; cases h
  marks := .nil

theorem reset_referenceLaw : ReferenceLaw State.reset where
  ids := by simp [reset_entriesInUse]
  counts o := by simp [reset_entriesInUse, reset_referencesTo]
  named := by simp [reset_entriesInUse]

end Sys2Proof.Machine

open Sys2Proof Sys2Proof.Machine

/-- Settles O60: each law from the values of its block at reset. -/
theorem lawsHoldAtReset : Obligations.LawsHoldAtReset :=
  ⟨rfl, reset_alertListLaw, reset_memory_wf, reset_templateLaw, reset_portLaw,
    (planLaw_iff _).mpr Plan.initial_lawful, (plannedLaw_iff _).mpr ⟨nofun, nofun⟩,
    (serviceLaw_iff _).mpr .empty, reset_controlLaw, rfl, reset_outputLaw,
    fun i k => reset_lane i k ▸ laneLaw_initial, reset_pageLaw, reset_objectLaw, reset_referenceLaw⟩

/-- Settles O4: both events give `State.started`, whose blocks are those of reset. -/
theorem powerOnAndHardResetValues : Obligations.PowerOnAndHardResetValues := by
  intro c straps cause s h
  refine ⟨_, exec_start h, rfl, rfl, rfl, rfl, rfl, rfl, rfl, rfl, rfl, rfl, fun i => ?_, rfl,
    fun i => vector_replicate_get _ i, rfl, fun n => ?_, fun n => ?_, fun n => mapTable_get _ _ n,
    rfl, rfl, rfl, rfl, fun i => ⟨vector_replicate_get _ i, vector_replicate_get _ i⟩,
    fun o => vector_replicate_get _ o, ObjectStore.initial_free, rfl, rfl, rfl, rfl,
    fun i k => s.started_lane _ _ _ i k, rfl, rfl⟩
  · have report : (s.started (Control.initial straps cause) s.templates.startUp true).control.reports[i]
        = ReportRecord.cleared Control.defaultLevels[i] := Control.initial_report straps cause i
    rw [report]
    exact ⟨rfl, rfl, rfl⟩
  · have port : (s.started (Control.initial straps cause) s.templates.startUp true).ports[n]
        = Port.initial := vector_replicate_get _ n
    rw [port]
    exact ⟨rfl, rfl, rfl, rfl, rfl, rfl, rfl, rfl, rfl, rfl, rfl, rfl, rfl,
      fun k => ⟨vector_replicate_get _ k, vector_replicate_get _ k⟩⟩
  · have filter : (s.started (Control.initial straps cause) s.templates.startUp true).cues[n]
        = CueFilter.initial := vector_replicate_get _ n
    rw [filter]
    exact ⟨rfl, rfl⟩

end

section
/-! PROOFS. The requests that read the state. -/

namespace Sys2Proof.Machine

/-- A request of a known kind and body carried out (R187): the row and the size are then closed facts. -/
theorem exec_request_of {s : State} {r : Request} {rest : List Request} {c : Instr} {k : Octet}
    {b : Octets} {owner : Octets → State → State × Answer} {t : State} {code : ReplyCode}
    {result : Octets} (h : Taking s r rest) (kind : r.kind = k) (body : r.body = b)
    (row : commandOfKind k = c) (fits : bodyFits k b.length = true)
    (work : owner b (s.taken rest) = (t, { code := code, result := result })) :
    event (request c owner) s = .next (t.replied r code result) := by
  subst kind body
  exact exec_request h row fits work

/-- The octet of an index in the only octet of a body names that index. -/
theorem toFin?_field_octet {k : Nat} (i : Fin k) (h : k ≤ 256) (b : Octets) :
    toFin? k (field (octet i.val :: b) 0) = some i := by
  rw [field_zero, octet_fin i h, toFin?_val]

/-! ### What each owner answers -/

theorem svcRead_defined {s : State} {i : Fin 32} {v : Service} (h : s.services[i] = some v) :
    svcRead [octet i.val] s = .done ([octet i.val] ++ v.octets ++ [1, s.plan.planOctet i]) := by
  simp only [svcRead, toFin?_field_octet i (by decide), h]

theorem svcRead_unused {s : State} {i : Fin 32} (h : s.services[i] = none) :
    svcRead [octet i.val] s = .done (List.replicate 38 0) := by
  simp only [svcRead, toFin?_field_octet i (by decide), h]
  rfl

theorem planRead_active (s : State) :
    planRead [0] s =
      .done ([0, 0, 0, octet s.plan.number.toNat, octet s.plan.active.length]
        ++ s.plan.active.flatMap PlanEntry.octets) := rfl

theorem planRead_staged (s : State) :
    planRead [1] s =
      .done ([1, s.plan.stateCode, octet (s.plan.countdown.getD 0), octet s.plan.number.toNat,
          octet s.plan.staged.length]
        ++ s.plan.staged.flatMap PlanEntry.octets) := rfl

theorem portRead_octets (s : State) (n : Fin 8) :
    portRead [octet n.val] s =
      (s.setPort n { s.ports[n] with counters := PortCounters.zero }, .done (s.ports[n].octets n)) := by
  simp only [portRead, toFin?_field_octet n (by decide)]

end Sys2Proof.Machine

open Sys2Proof Sys2Proof.Machine

/-- Settles O21: each request through what its owner answers. -/
theorem readRequestsReturnTheState : Obligations.ReadRequestsReturnTheState := by
  intro s r rest h
  refine ⟨fun i kind body => ⟨fun v hv => ?_, fun hv => ?_⟩, fun kind body => ?_, fun kind body => ?_,
    fun n kind body => ?_, fun kind body => ?_, fun kind body => ?_⟩
  · refine exec_request_of h kind body rfl rfl ?_
    rw [reading, svcRead_defined (by exact hv)]
    rfl
  · refine exec_request_of h kind body rfl rfl ?_
    rw [reading, svcRead_unused (by exact hv)]
    rfl
  · exact exec_request_of h kind body rfl rfl (congrArg (Prod.mk _) (planRead_active _))
  · exact exec_request_of h kind body rfl rfl (congrArg (Prod.mk _) (planRead_staged _))
  · refine exec_request_of h kind body rfl rfl ?_
    rw [portRead_octets]
    simp [State.setPort, Port.octets, PortCounters.octets, Answer.done]
  · exact exec_request_of h kind body rfl rfl rfl
  · exact exec_request_of h kind body rfl rfl rfl

end

section
/-! PROOFS. Lanes emptied and references released, and what SVC_DROP leaves. -/

namespace Sys2Proof.Machine

/-! ### Lanes written and read back -/

theorem updateAt_updateAt {α : Type} {n : Nat} (v : Vector α n) (i : Fin n) (f g : α → α) :
    updateAt (updateAt v i f) i g = updateAt v i (fun x => g (f x)) := by
  simp [updateAt]

@[simp] theorem Carousel.lane_setLane (c : Carousel) (k : ObjectKind) (l : Lane) :
    (c.setLane k l).lane k = l := by cases k <;> rfl

@[simp] theorem Carousel.setLane_lane (c : Carousel) (k : ObjectKind) : c.setLane k (c.lane k) = c := by
  cases k <;> rfl

@[simp] theorem Carousel.setLane_setLane (c : Carousel) (k : ObjectKind) (l m : Lane) :
    (c.setLane k l).setLane k m = c.setLane k m := by cases k <;> rfl

@[simp] theorem State.lane_setLane (s : State) (i : Fin 32) (k : ObjectKind) (l : Lane) :
    (s.setLane i k l).lane i k = l := by
  rw [State.lane, State.setLane, State.withCarousels_carousels, updateAt_same, Carousel.lane_setLane]

/-- The PICTURE lane while the TEXT lane is written. -/
theorem State.picture_setLane_text (s : State) (i : Fin 32) (l : Lane) :
    (s.setLane i .text l).lane i .picture = s.lane i .picture := by
  rw [State.lane, State.setLane, State.withCarousels_carousels, updateAt_same]
  rfl

@[simp] theorem State.setLane_self (s : State) (i : Fin 32) (k : ObjectKind) :
    s.setLane i k (s.lane i k) = s := by
  simp [State.setLane, State.lane, updateAt]

@[simp] theorem State.setLane_setLane (s : State) (i : Fin 32) (k : ObjectKind) (l m : Lane) :
    (s.setLane i k l).setLane i k m = s.setLane i k m := by
  simp [State.setLane, updateAt_updateAt]

@[simp] theorem State.lane_withStore (s : State) (x : ObjectStore) (i : Fin 32) (k : ObjectKind) :
    (s.withStore x).lane i k = s.lane i k := rfl

theorem State.setLane_withStore (s : State) (x : ObjectStore) (i : Fin 32) (k : ObjectKind) (l : Lane) :
    (s.withStore x).setLane i k l = (s.setLane i k l).withStore x := rfl

/-! ### References released (R109) -/

theorem ObjectStore.release_objects (st : ObjectStore) (o p : Fin 128) :
    (st.release o).objects[p] =
      if p = o then st.objects[p].map fun x => { x with references := x.references - 1 }
      else st.objects[p] := by
  unfold ObjectStore.release ObjectStore.setObject
  split
  · rename_i h
    split
    · rename_i hp
      rw [hp, h]
      rfl
    · rfl
  · rename_i x h
    rw [set_get]
    split
    · rename_i hp
      rw [hp, h]
      rfl
    · rfl

/-- A release changes the object table only. -/
theorem ObjectStore.release_eq (st : ObjectStore) (o : Fin 128) :
    ∃ objects, st.release o = { st with objects := objects } := by
  unfold ObjectStore.release
  split
  · exact ⟨_, rfl⟩
  · exact ⟨_, rfl⟩

/-- The references of these entries released, one after the other. -/
def ObjectStore.releaseAll (st : ObjectStore) (entries : List CarouselEntry) : ObjectStore :=
  entries.foldl (fun st e => st.release e.object) st

theorem ObjectStore.releaseAll_append (st : ObjectStore) (l m : List CarouselEntry) :
    st.releaseAll (l ++ m) = (st.releaseAll l).releaseAll m := List.foldl_append

theorem ObjectStore.releaseAll_eq (st : ObjectStore) (entries : List CarouselEntry) :
    ∃ objects, st.releaseAll entries = { st with objects := objects } := by
  induction entries generalizing st with
  | nil => exact ⟨_, rfl⟩
  | cons e rest ih =>
    obtain ⟨one, hone⟩ := st.release_eq e.object
    obtain ⟨all, hall⟩ := ih (st.release e.object)
    exact ⟨all, hall.trans (by rw [hone])⟩

@[simp] theorem ObjectStore.releaseAll_memory (st : ObjectStore) (entries : List CarouselEntry) :
    (st.releaseAll entries).memory = st.memory := by
  obtain ⟨objects, h⟩ := st.releaseAll_eq entries
  rw [h]

@[simp] theorem ObjectStore.releaseAll_free (st : ObjectStore) (entries : List CarouselEntry) :
    (st.releaseAll entries).free = st.free := by
  obtain ⟨objects, h⟩ := st.releaseAll_eq entries
  rw [h]

/-- Each object has one reference less for each entry that names it. -/
theorem ObjectStore.releaseAll_objects (st : ObjectStore) (entries : List CarouselEntry) (o : Fin 128) :
    (st.releaseAll entries).objects[o] = st.objects[o].map fun x =>
      { x with references := x.references - entries.countP fun e => decide (e.object = o) } := by
  induction entries generalizing st with
  | nil => simp [ObjectStore.releaseAll]
  | cons e rest ih =>
    have first : (st.releaseAll (e :: rest)).objects[o]
        = ((st.release e.object).releaseAll rest).objects[o] := rfl
    rw [first, ih, ObjectStore.release_objects]
    by_cases ho : o = e.object
    · simp only [ho, if_true, Option.map_map, List.countP_cons, decide_true]
      congr 1
      funext x
      simp [Nat.sub_sub, Nat.add_comm]
    · simp [ho, Ne.symm ho]

/-! ### A lane emptied, entry by entry (R125, R126) -/

/-- Removing the first of a lane's entries leaves the others, and an EMPTY lane when there are none. -/
theorem Lane.remove_first {l : Lane} {e : CarouselEntry} {rest : List CarouselEntry}
    (entries : l.entries = e :: rest) (ids : (l.entries.map CarouselEntry.id).Nodup) :
    (l.remove e).entries = rest ∧ (rest = [] → l.remove e = Lane.initial) := by
  have others : l.entries.filter (fun x => decide (x.id ≠ e.id)) = rest := by
    rw [entries, List.map_cons, List.nodup_cons] at ids
    rw [entries, List.filter_cons_of_neg (by simp), List.filter_eq_self]
    intro x hx
    have other : x.id ≠ e.id := fun same => ids.1 (same ▸ List.mem_map_of_mem hx)
    simpa using other
  unfold Lane.remove
  simp only [others]
  split
  · rename_i empty
    exact ⟨empty.symm, fun _ => rfl⟩
  · rename_i some_left
    exact ⟨rfl, fun empty => absurd empty some_left⟩

/-- Removing every entry of a lane, from the first on, empties it and releases their references. -/
theorem foldl_removeEntry {i : Fin 32} {k : ObjectKind} {entries : List CarouselEntry} {s : State}
    (held : (s.lane i k).entries = entries) (ids : (entries.map CarouselEntry.id).Nodup)
    (some_entry : entries ≠ []) :
    entries.foldl (fun t e => t.removeEntry i k e) s
      = (s.setLane i k Lane.initial).withStore (s.store.releaseAll entries) := by
  induction entries generalizing s with
  | nil => exact absurd rfl some_entry
  | cons e rest ih =>
    obtain ⟨left, last⟩ := Lane.remove_first held (held ▸ ids)
    rw [List.foldl_cons]
    by_cases empty : rest = []
    · rw [State.removeEntry, last empty, empty]
      rfl
    · rw [ih (by rw [State.removeEntry, State.lane_withStore, State.lane_setLane, left])
        (List.nodup_cons.mp ids).2 empty]
      rw [State.removeEntry, State.setLane_withStore, State.setLane_setLane]
      rfl

/-- A lane that keeps its law cleared: EMPTY, and its entries' references released (R126). -/
theorem State.clearLane_eq {s : State} {i : Fin 32} {k : ObjectKind} (h : laneLaw (s.lane i k)) :
    s.clearLane i k
      = (s.setLane i k Lane.initial).withStore (s.store.releaseAll (s.lane i k).entries) := by
  unfold State.clearLane
  by_cases empty : (s.lane i k).entries = []
  · rw [empty, ← h.empty empty, State.setLane_self]
    rfl
  · exact foldl_removeEntry rfl h.ids empty

/-- A drop, its parts named: both lanes EMPTY, the references of both released, the history forgotten,
the record UNUSED (R13, R183). -/
theorem State.dropService_eq {s : State} (i : Fin 32) (h : LaneLaw s) :
    s.dropService i =
      { s with
        services := s.services.set i none
        alerts := s.alerts.forget i
        store := s.store.releaseAll ((s.lane i .text).entries ++ (s.lane i .picture).entries)
        carousels := s.carousels.set i Carousel.initial } := by
  have text := State.clearLane_eq (h i .text)
  have picture : (s.clearLane i .text).lane i .picture = s.lane i .picture := by
    rw [text, State.lane_withStore, State.picture_setLane_text]
  have both : (s.clearLane i .text).clearLane i .picture =
      { s with
        store := s.store.releaseAll ((s.lane i .text).entries ++ (s.lane i .picture).entries)
        carousels := s.carousels.set i Carousel.initial } := by
    rw [State.clearLane_eq (picture ▸ h i .picture), picture, text, ObjectStore.releaseAll_append,
      State.setLane_withStore]
    have lanes : ((s.setLane i .text Lane.initial).setLane i .picture Lane.initial)
        = s.withCarousels (s.carousels.set i Carousel.initial) := by
      simp [State.setLane, updateAt_updateAt]
      rfl
    rw [lanes]
    rfl
  simp only [State.dropService, both]
  rfl

/-- What SVC_DROP does past its checks. -/
theorem svcDrop_done {s : State} {i : Fin 32} (defined : s.services[i] ≠ none)
    (onAir : s.plan.onAir i = false) (staged : s.plan.isStaged i = false) :
    svcDrop [octet i.val] s = (s.dropService i, .plain .done) := by
  have used : s.services[i].isNone = false :=
    Option.isNone_eq_false_iff.mpr (Option.isSome_iff_ne_none.mpr defined)
  simp only [svcDrop, toFin?_field_octet i (by decide), used, onAir, staged]
  rfl

end Sys2Proof.Machine

open Sys2Proof Sys2Proof.Machine

/-- Settles O17: the drop by `State.dropService_eq`, and the references by what a release does to each
object. -/
theorem svcDropLeavesNoTrace : Obligations.SvcDropLeavesNoTrace := by
  intro s r rest i h kind body defined onAir staged lanes
  have dropped := State.dropService_eq (s := s.taken rest) i lanes
  refine ⟨(s.taken rest).dropService i, exec_request_of h kind body rfl rfl
    (svcDrop_done defined onAir staged), ?_⟩
  rw [dropped]
  exact ⟨rfl, rfl, rfl, rfl, fun o => s.store.releaseAll_objects _ o, s.store.releaseAll_memory _,
    s.store.releaseAll_free _, rfl, rfl, rfl, rfl, rfl, rfl, rfl, rfl, rfl⟩

end

section
/-! PROOFS. The octets of a service record read back, and what SVC_SET answers. -/

namespace Sys2Proof.Machine

/-! ### Reading behind the octets that come first -/

theorem field_behind {a b : Octets} {n : Nat} (h : a.length ≤ n) :
    field (a ++ b) n = field b (n - a.length) := by
  rw [field, List.getD_append_right _ _ _ _ h, field]

theorem field16_behind {a b : Octets} {n : Nat} (h : a.length ≤ n) :
    field16 (a ++ b) n = field16 b (n - a.length) := by
  rw [field16, field_behind h, field_behind (by omega), Nat.sub_add_comm h, field16]

theorem span_behind {a b : Octets} {n m : Nat} (h : a.length ≤ n) :
    span (a ++ b) n m = span b (n - a.length) m := by
  rw [span, List.drop_append, List.drop_of_length_le h, List.nil_append, span]

theorem streamOperand_behind {a b : Octets} {n : Nat} (h : a.length ≤ n) :
    streamOperand (a ++ b) n = streamOperand b (n - a.length) := by
  rw [streamOperand, field_behind h, field_behind (by omega), field_behind (by omega),
    Nat.sub_add_comm h, Nat.sub_add_comm h, streamOperand]

theorem span_succ (o : Octet) (b : Octets) (i n : Nat) : span (o :: b) (i + 1) n = span b i n := rfl

theorem streamOperand_succ (o : Octet) (b : Octets) (i : Nat) :
    streamOperand (o :: b) (i + 1) = streamOperand b i := rfl

@[simp] theorem padTo_length (n : Nat) (b : Octets) : (padTo n b).length = n := by simp [padTo]

@[simp] theorem be16_length (n : Nat) : (be16 n).length = 2 := by simp [be16]

@[simp] theorem streamOctets_length (x : Option Stream) : (streamOctets x).length = 3 := by
  cases x <;> rfl

/-- Octets laid out in a longer field read back by their number. -/
theorem span_padTo {n : Nat} {a : Octets} (h : a.length ≤ n) (b : Octets) :
    span (padTo n a ++ b) 0 a.length = a := by
  rw [span, List.drop_zero, List.take_append_of_le_length (by simpa using h), padTo, List.take_take,
    Nat.min_eq_left h, List.take_left]

/-- A binding laid out and read back (R6). -/
theorem streamOperand_streamOctets (x : Option Stream) (b : Octets) :
    streamOperand (streamOctets x ++ b) 0 = some x := by
  cases x with
  | none => rfl
  | some x =>
    obtain ⟨port, number⟩ := x
    simp [streamOperand, streamOctets, flagOperand, octet_fin]

theorem serviceKindOperand_code (k : ServiceKind) : serviceKindOperand k.code.toNat = some k := by
  cases k <;> rfl

theorem nameOperand_of_span {b n : Octets} {length i : Nat} (h : span b i length = n)
    (characters : n.all isNameCharacter = true) : nameOperand b length i = some n := by
  rw [nameOperand, h, if_pos characters]

theorem rangeOperand_of_mem {least greatest n : Nat} (h : least ≤ n ∧ n ≤ greatest) :
    rangeOperand least greatest n = some n := if_pos h

theorem toNat_pos {w : Nat} {x : BitVec w} (h : x ≠ 0) : 1 ≤ x.toNat :=
  Nat.one_le_iff_ne_zero.mpr fun e => h (BitVec.eq_of_toNat_eq (by simpa using e))

theorem regionsOperand_toNat {x : BitVec 16} (h : x ≠ 0) : regionsOperand x.toNat = some x := by
  have := toNat_pos h
  rw [regionsOperand, if_neg (by omega), BitVec.ofNat_toNat, BitVec.setWidth_eq]

/-! ### The record of SVC_SET (R6) -/

/-- The octets of a long name, none when there is none. -/
def Service.longOctets (v : Service) : Octets := v.longName.getD []

theorem Service.Valid.long_octets {v : Service} (h : v.Valid) :
    v.longOctets.length ≤ 16 ∧ v.longOctets.all isNameCharacter = true ∧
      (if v.longOctets.length = 0 then none else some v.longOctets) = v.longName := by
  unfold Service.longOctets
  cases hn : v.longName with
  | none => simp
  | some n =>
    obtain ⟨least, greatest, characters⟩ := h.long n hn
    have : n ≠ [] := List.ne_nil_of_length_pos least
    simpa [this] using ⟨greatest, by simpa using characters⟩

theorem Service.octets_length (v : Service) : v.octets.length = 35 := by
  simp [Service.octets]

/-- The octets of a record within its ranges read back as the record. -/
theorem serviceOperand_octets (i : Fin 32) {v : Service} (h : v.Valid) :
    serviceOperand (octet i.val :: v.octets) = some (i, v) := by
  obtain ⟨short_least, short_greatest, short_characters⟩ := h.short
  obtain ⟨long_greatest, long_characters, long_name⟩ := h.long_octets
  have body : v.octets = be16 v.id.toNat ++ (v.kind.code :: octet v.shortName.length ::
      (padTo 8 v.shortName ++ (octet v.longOctets.length :: (padTo 16 v.longOctets
        ++ (streamOctets v.binding ++ (octet v.protection.val :: be16 v.regions.toNat)))))) := by
    simp [Service.octets, Service.longOctets]
  have index : toFin? 32 (field (octet i.val :: v.octets) 0) = some i :=
    toFin?_field_octet i (by decide) _
  have id : field16 (octet i.val :: v.octets) 1 = v.id.toNat := by
    rw [body, field16_succ, field16_be16 v.id.isLt]
  have kind : serviceKindOperand (field (octet i.val :: v.octets) 3) = some v.kind := by
    simp [body, field_behind, serviceKindOperand_code]
  have shortLength : field (octet i.val :: v.octets) 4 = v.shortName.length := by
    simp [body, field_behind, octet_toNat (show v.shortName.length < 256 by omega)]
  have shortName : span (octet i.val :: v.octets) 5 v.shortName.length = v.shortName := by
    simp [body, span_succ, span_behind, span_padTo short_greatest]
  have longLength : field (octet i.val :: v.octets) 13 = v.longOctets.length := by
    simp [body, field_behind, octet_toNat (show v.longOctets.length < 256 by omega)]
  have longName : span (octet i.val :: v.octets) 14 v.longOctets.length = v.longOctets := by
    simp [body, span_succ, span_behind, span_padTo long_greatest]
  have binding : streamOperand (octet i.val :: v.octets) 30 = some v.binding := by
    simp [body, streamOperand_succ, streamOperand_behind, streamOperand_streamOctets]
  have protection : toFin? 8 (field (octet i.val :: v.octets) 33) = some v.protection := by
    simp [body, field_behind, octet_fin]
  have regions : field16 (octet i.val :: v.octets) 34 = v.regions.toNat := by
    simpa [body, field16_behind] using field16_be16 v.regions.isLt []
  have readShort := nameOperand_of_span shortName short_characters
  have readLong := nameOperand_of_span longName long_characters
  have bound : ¬(v.kind = .data ∧ v.binding.isSome = true) := fun ⟨data, bound⟩ => by
    simp [h.bound data] at bound
  simp only [serviceOperand, index, id, kind, shortLength, longLength, binding, protection, regions,
    rangeOperand_of_mem ⟨toNat_pos h.id, Nat.le_of_lt_succ v.id.isLt⟩,
    rangeOperand_of_mem ⟨short_least, short_greatest⟩,
    rangeOperand_of_mem ⟨Nat.zero_le _, long_greatest⟩, readShort, readLong, bound,
    regionsOperand_toNat h.regions, long_name, Option.bind_eq_bind, Option.bind_some, if_false]
  simp

/-! ### The three checks of SVC_SET and what passes them (R7, R8) -/

section Checks

variable {s : State} {i : Fin 32} {v w : Service} {j : Fin 32}

theorem svcSet_onAir (valid : v.Valid) (h : s.services[i] = some w)
    (planned : s.plan.onAir i = true ∨ s.plan.isStaged i = true) (differs : w.id ≠ v.id ∨ w.kind ≠ v.kind) :
    svcSet (octet i.val :: v.octets) s = (s, .plain .onAir) := by
  have changes : changesPlanned s i v = true := changesPlanned_iff.mpr ⟨planned, w, h, differs⟩
  simp [svcSet, serviceOperand_octets i valid, changes]

theorem svcSet_inUse (valid : v.Valid)
    (kept : ∀ w, s.services[i] = some w → s.plan.onAir i = true ∨ s.plan.isStaged i = true →
      w.id = v.id ∧ w.kind = v.kind)
    (other : j ≠ i) (h : s.services[j] = some w) (same : w.id = v.id) :
    svcSet (octet i.val :: v.octets) s = (s, .plain .inUse) := by
  have unchanged : changesPlanned s i v = false := changesPlanned_false_iff.mpr kept
  have used : otherRecord s.services i (fun r => decide (r.id = v.id)) = true :=
    otherRecord_iff.mpr ⟨j, w, other, h, by simpa using same⟩
  simp [svcSet, serviceOperand_octets i valid, unchanged, used]

/-- The second check passed: no other record has the id. -/
theorem otherRecord_id_false (ids : ∀ j w, j ≠ i → s.services[j] = some w → w.id ≠ v.id) :
    otherRecord s.services i (fun r => decide (r.id = v.id)) = false :=
  otherRecord_false_iff.mpr fun j w other h => by simpa using ids j w other h

theorem svcSet_boundElsewhere (valid : v.Valid)
    (kept : ∀ w, s.services[i] = some w → s.plan.onAir i = true ∨ s.plan.isStaged i = true →
      w.id = v.id ∧ w.kind = v.kind)
    (ids : ∀ j w, j ≠ i → s.services[j] = some w → w.id ≠ v.id)
    (other : j ≠ i) (h : s.services[j] = some w) (bound : v.binding ≠ none)
    (same : w.binding = v.binding) :
    svcSet (octet i.val :: v.octets) s = (s, .plain .boundElsewhere) := by
  have unchanged : changesPlanned s i v = false := changesPlanned_false_iff.mpr kept
  have taken : otherRecord s.services i (fun r => decide (r.binding = v.binding)) = true :=
    otherRecord_iff.mpr ⟨j, w, other, h, by simpa using same⟩
  simp [svcSet, serviceOperand_octets i valid, unchanged, otherRecord_id_false ids, taken,
    Option.isSome_iff_ne_none.mpr bound]

theorem svcSet_done (valid : v.Valid)
    (kept : ∀ w, s.services[i] = some w → s.plan.onAir i = true ∨ s.plan.isStaged i = true →
      w.id = v.id ∧ w.kind = v.kind)
    (ids : ∀ j w, j ≠ i → s.services[j] = some w → w.id ≠ v.id)
    (bindings : ∀ j w, j ≠ i → s.services[j] = some w → v.binding ≠ none → w.binding ≠ v.binding) :
    svcSet (octet i.val :: v.octets) s
      = (s.withServices (s.services.set i (some v)), .plain .done) := by
  have unchanged : changesPlanned s i v = false := changesPlanned_false_iff.mpr kept
  have free : (v.binding.isSome
      && otherRecord s.services i fun r => decide (r.binding = v.binding)) = false := by
    cases bound : v.binding.isSome with
    | false => rfl
    | true =>
      exact otherRecord_false_iff.mpr fun j w other h => by
        simpa using bindings j w other h (Option.isSome_iff_ne_none.mp bound)
  simp only [svcSet, serviceOperand_octets i valid, unchanged, otherRecord_id_false ids, free]
  rfl

end Checks

end Sys2Proof.Machine

open Sys2Proof Sys2Proof.Machine

/-- Settles O16: each outcome of SVC_SET by the check that decides it. -/
theorem svcSetDefinesOrRefuses : Obligations.SvcSetDefinesOrRefuses := by
  intro s r rest i v h kind body valid
  have fits : bodyFits 0x10 (octet i.val :: v.octets).length = true := by
    rw [List.length_cons, v.octets_length]
    rfl
  refine ⟨fun w hw planned differs => ?_, fun kept => ⟨fun j w other hw same => ?_, fun ids =>
    ⟨fun j w other hw bound same => ?_, fun bindings => ?_⟩⟩⟩
  · exact exec_request_of h kind body rfl fits (svcSet_onAir valid hw planned differs)
  · exact exec_request_of h kind body rfl fits (svcSet_inUse valid kept other hw same)
  · exact exec_request_of h kind body rfl fits (svcSet_boundElsewhere valid kept ids other hw bound same)
  · exact exec_request_of h kind body rfl fits (svcSet_done valid kept ids bindings)

end

section
/-! PROOFS. What PLAN_EDIT, PLAN_COPY, PLAN_COMMIT and PLAN_WITHDRAW answer, and what the plan unit does
at a frame assembly start. -/

namespace Sys2Proof.Machine

/-! ### PLAN_EDIT (R20, R21) -/

/-- A run whose quantities fit the two octets that PLAN_EDIT has for each. -/
structure PlanEntry.Encodable (e : PlanEntry) : Prop where
  start : e.start < 65536
  length : e.length < 65536
  share : e.share < 65536

theorem PlanEntry.octets_eq (e : PlanEntry) :
    e.octets = octet e.service.val :: (be16 e.start ++ (be16 e.length ++ (be16 e.share ++ []))) := by
  simp [PlanEntry.octets]

theorem PlanEntry.octets_service (e : PlanEntry) :
    toFin? 32 (field e.octets 0) = some e.service := toFin?_field_octet e.service (by decide) _

theorem PlanEntry.Encodable.octets_start {e : PlanEntry} (h : e.Encodable) :
    field16 e.octets 1 = e.start := by
  rw [e.octets_eq, field16_succ, field16_be16 h.start]

theorem PlanEntry.Encodable.octets_length {e : PlanEntry} (h : e.Encodable) :
    field16 e.octets 3 = e.length := by
  rw [e.octets_eq, field16_succ, field16_behind (be16_length _).le, be16_length,
    field16_be16 h.length]

theorem PlanEntry.Encodable.octets_share {e : PlanEntry} (h : e.Encodable) :
    field16 e.octets 5 = e.share := by
  rw [e.octets_eq, field16_succ, field16_behind (by simp), be16_length,
    field16_behind (be16_length _).le, be16_length, field16_be16 h.share]

/-- While COMMITTED the STAGED bank is not edited (R19). -/
theorem planEdit_busy (s : State) (committed : s.plan.countdown.isSome = true) (b : Octets) :
    planEdit b s = (s, .plain .busy) := if_pos committed

section Edit

variable (s : State) {e : PlanEntry}

/-- With length 0 the service's run is removed, whatever start and share say (R21). -/
theorem planEdit_removes (opened : s.plan.countdown = none) (h : e.Encodable)
    (empty : e.length = 0) :
    planEdit e.octets s
      = (s.withPlan { s.plan with staged := withoutService s.plan.staged e.service },
          .plain .done) := by
  simp only [planEdit, opened, e.octets_service, h.octets_length, empty, Option.isSome_none]
  rfl

/-- A run past every check takes the place of the service's run (R20, R21). -/
theorem planEdit_stages {v : Service} (opened : s.plan.countdown = none) (h : e.Encodable)
    (defined : s.services[e.service] = some v) (filled : 1 ≤ e.length) (first : e.start ≤ 639)
    (inside : e.start + e.length ≤ 640) (fits : e.share ≤ e.length)
    (allowed : v.kind.allowsShare e.length e.share = true)
    (apart : ∀ x ∈ withoutService s.plan.staged e.service, e.overlaps x = false) :
    planEdit e.octets s
      = (s.withPlan
          { s.plan with staged := insertEntry e (withoutService s.plan.staged e.service) },
          .plain .done) := by
  have some_cells : e.length ≠ 0 := by omega
  have in_range :
      ¬ (639 < e.start ∨ 640 < e.length ∨ 640 < e.start + e.length ∨ e.length < e.share) := by omega
  have clear : (withoutService s.plan.staged e.service).any e.overlaps = false := by
    simpa using apart
  simp only [planEdit, opened, e.octets_service, h.octets_start, h.octets_length, h.octets_share,
    Option.isSome_none, if_neg some_cells, if_neg in_range, defined, allowed, clear]
  rfl

end Edit

/-- PLAN_EDIT carried out for the run its body lays out. -/
theorem exec_planEdit {s t : State} {r : Request} {rest : List Request} {e : PlanEntry}
    {code : ReplyCode} (h : Taking s r rest) (kind : r.kind = 0x20) (body : r.body = e.octets)
    (work : planEdit e.octets (s.taken rest) = (t, .plain code)) :
    exec .planEdit s = .next (t.replied r code []) := exec_request_of h kind body rfl rfl work

/-- The share a kind allows, as R17 says it of each kind. -/
theorem ServiceKind.allowsShare_of {k : ServiceKind} {length share : Nat}
    (audio : k = .audio → share < length) (data : k = .data → share = length) :
    k.allowsShare length share = true := by
  cases k with
  | audio => exact decide_eq_true (audio rfl).ne
  | data => exact decide_eq_true (data rfl)

/-- Runs of which one ends before the other starts share no cell. -/
theorem PlanEntry.overlaps_false_of {a b : PlanEntry}
    (h : b.start + b.length ≤ a.start ∨ a.start + a.length ≤ b.start) : a.overlaps b = false :=
  decide_eq_false (by omega)

/-! ### PLAN_COPY, PLAN_COMMIT, PLAN_WITHDRAW (R23, R25, R31) -/

section Requests

variable (s : State)

theorem planCopy_open (opened : s.plan.countdown = none) (b : Octets) :
    planCopy b s = (s.withPlan { s.plan with staged := s.plan.active }, .plain .done) := by
  rw [planCopy, opened]
  rfl

theorem planCopy_busy (committed : s.plan.countdown.isSome = true) (b : Octets) :
    planCopy b s = (s, .plain .busy) := if_pos committed

theorem planCommit_open (opened : s.plan.countdown = none) {c : Octet}
    (range : 2 ≤ c.toNat ∧ c.toNat ≤ 250) :
    planCommit [c] s = (s.withPlan (s.plan.commit c.toNat), .plain .done) := by
  rw [planCommit, opened, field_zero, rangeOperand_of_mem range]
  rfl

theorem planCommit_busy (committed : s.plan.countdown.isSome = true) (b : Octets) :
    planCommit b s = (s, .plain .busy) := if_pos committed

theorem planWithdraw_open (opened : s.plan.countdown = none) (b : Octets) :
    planWithdraw b s = (s, .plain .notCommitted) := by rw [planWithdraw, opened]

theorem planWithdraw_late (last : s.plan.countdown = some 1) (b : Octets) :
    planWithdraw b s = (s, .plain .tooLate) := by
  rw [planWithdraw, last]
  rfl

theorem planWithdraw_in_time {c : Nat} (counting : s.plan.countdown = some c) (left : 2 ≤ c)
    (b : Octets) : planWithdraw b s = (s.withPlan s.plan.withdraw, .plain .done) := by
  rw [planWithdraw, counting]
  exact if_neg (by omega)

end Requests

/-! ### The frame assembly start (R27, R28, R30, R32) -/

section Start

variable {p : Plan}

theorem Plan.count_open (opened : p.countdown = none) : p.count = (p, false) := by
  rw [Plan.count, opened]

theorem Plan.count_switches (last : p.countdown = some 1) : p.count = (p.switch, true) := by
  rw [Plan.count, last]
  rfl

theorem Plan.count_steps {c : Nat} (counting : p.countdown = some c) (left : 2 ≤ c) :
    p.count = ({ p with countdown := some (c - 1) }, false) := by
  rw [Plan.count, counting]
  exact if_neg (by omega)

/-- A start by what its countdown step comes to. -/
theorem Plan.start_of_count {q : Plan} {switched : Bool} (h : p.count = (q, switched)) :
    p.start = (q.age, q.account switched, if switched then [q.switchedEvent] else []) := by
  rw [Plan.start, h]

/-- With no WITHDRAWN announcement running, none falls. -/
theorem Plan.age_of_withdrawn_zero (h : p.withdrawn = 0) : p.age = p := by
  have none_falls : p.withdrawn - 1 = p.withdrawn := by omega
  rw [Plan.age, none_falls]

/-- The account in OPEN: no countdown and no staged entries, and WITHDRAWN with those left after this
announcement, while it runs (R30, R32). -/
theorem Plan.account_open (opened : p.countdown = none) (switched : Bool) :
    p.account switched =
      { entries := p.active, number := p.number, countdown := 0
        announcement := if p.withdrawn = 0 then .none else .withdrawn p.number (p.withdrawn - 1)
        staged := [], switched := switched } := by
  have announced : p.announcement
      = if p.withdrawn = 0 then .none else .withdrawn p.number (p.withdrawn - 1) := by
    simp only [Plan.announcement, opened, Nat.pos_iff_ne_zero, ite_not]
  rw [Plan.account, announced, opened]
  rfl

end Start

end Sys2Proof.Machine

open Sys2Proof Sys2Proof.Machine

/-- Settles O18: the length alone decides a removal, and a run within the statement's bounds passes the
checks of PLAN_EDIT one by one. -/
theorem planEditStagesOrRemoves : Obligations.PlanEditStagesOrRemoves := by
  intro s r rest i start length share h kind body opened hstart hlength hshare
  have laid_out : r.body = PlanEntry.octets ⟨i, start, length, share⟩ := body
  have encodable : PlanEntry.Encodable ⟨i, start, length, share⟩ := ⟨hstart, hlength, hshare⟩
  refine ⟨fun zero => ?_, fun v defined filled first inside fits audio data apart _ => ?_⟩
  · exact exec_planEdit h kind laid_out
      (planEdit_removes (s.taken rest) opened encodable zero)
  · have clear (x : PlanEntry) (hx : x ∈ withoutService s.plan.staged i) :
        PlanEntry.overlaps ⟨i, start, length, share⟩ x = false := by
      obtain ⟨staged, other⟩ := mem_withoutService.mp hx
      exact PlanEntry.overlaps_false_of (apart x staged other)
    exact exec_planEdit h kind laid_out
      (planEdit_stages (s.taken rest) opened encodable defined filled first inside fits
        (ServiceKind.allowsShare_of audio data) clear)

/-- Settles O19: each request by what its owner answers in OPEN and in COMMITTED. -/
theorem planCopyCommitWithdraw : Obligations.PlanCopyCommitWithdraw := by
  intro s r rest h
  refine ⟨fun kind body opened => ?_, fun c kind body opened least greatest => ?_,
    fun c kind body counting left => ?_, fun kind body last => ?_, fun kind body opened => ?_,
    fun committed => ⟨fun kind size => ?_, fun kind body => ?_, fun kind size => ?_⟩⟩
  · exact exec_request_of h kind body rfl rfl (planCopy_open (s.taken rest) opened _)
  · exact exec_request_of h kind body rfl rfl (planCommit_open (s.taken rest) opened ⟨least, greatest⟩)
  · exact exec_request_of h kind body rfl rfl (planWithdraw_in_time (s.taken rest) counting left _)
  · exact exec_request_of h kind body rfl rfl (planWithdraw_late (s.taken rest) last _)
  · exact exec_request_of h kind body rfl rfl (planWithdraw_open (s.taken rest) opened _)
  · exact exec_request_of h kind rfl rfl (by rw [size]; rfl) (planEdit_busy (s.taken rest) committed _)
  · exact exec_request_of h kind body rfl rfl (planCopy_busy (s.taken rest) committed _)
  · exact exec_request_of h kind rfl rfl (by rw [size]; rfl) (planCommit_busy (s.taken rest) committed _)

/-- Settles O20: a start by its countdown step, which switches, counts down or does nothing. -/
theorem countdownStepsAndSwitches : Obligations.CountdownStepsAndSwitches := by
  intro p _
  refine ⟨fun last still => ?_, fun c counting left still => ?_, fun opened => ?_⟩
  · have idle : p.switch.withdrawn = 0 := still
    rw [Plan.start_of_count (Plan.count_switches last), Plan.age_of_withdrawn_zero idle,
      Plan.account_open rfl, if_pos idle]
    rfl
  · rw [Plan.start_of_count (Plan.count_steps counting left), Plan.age_of_withdrawn_zero (by exact still)]
    rfl
  · rw [Plan.start_of_count (Plan.count_open opened), Plan.account_open opened]
    rfl

end

section
/-! PROOFS. The values after a RESTART, block by block. -/

namespace Sys2Proof.Machine

/-! ### Pages put back into the pool (R102) -/

theorem insertPage_eq (p : Nat) (l : List Nat) : insertPage p l = l.orderedInsert (· < ·) p := by
  induction l with
  | nil => rfl
  | cons q rest ih => rw [insertPage, ih, List.orderedInsert_cons]

theorem insertPage_perm (p : Nat) (l : List Nat) : (insertPage p l).Perm (p :: l) := by
  rw [insertPage_eq]
  exact List.perm_orderedInsert _ _ _

/-- A page put into an ascending pool finds its place. -/
theorem insertPage_ascending {p : Nat} {l : List Nat} (h : l.Pairwise (· ≤ ·)) :
    (insertPage p l).Pairwise (· ≤ ·) := by
  induction l with
  | nil => exact List.pairwise_singleton _ _
  | cons q rest ih =>
    obtain ⟨first, others⟩ := List.pairwise_cons.mp h
    unfold insertPage
    split
    · rename_i before
      refine List.pairwise_cons.mpr ⟨fun x hx => ?_, h⟩
      rcases List.mem_cons.mp hx with rfl | hx
      · exact before.le
      · exact before.le.trans (first x hx)
    · rename_i after
      refine List.pairwise_cons.mpr ⟨fun x hx => ?_, ih others⟩
      rcases List.mem_cons.mp ((insertPage_perm p rest).mem_iff.mp hx) with rfl | hx
      · exact not_lt.mp after
      · exact first x hx

theorem insertPages_perm (pages l : List Nat) : (pages.foldr insertPage l).Perm (l ++ pages) := by
  induction pages with
  | nil => rw [List.append_nil]; exact .refl _
  | cons p rest ih =>
    exact ((insertPage_perm p _).trans (ih.cons p)).trans List.perm_middle.symm

theorem insertPages_ascending {pages l : List Nat} (h : l.Pairwise (· ≤ ·)) :
    (pages.foldr insertPage l).Pairwise (· ≤ ·) := by
  induction pages with
  | nil => exact h
  | cons p rest ih => exact insertPage_ascending ih

/-! ### One object at a RESTART (R119) -/

/-- What a RESTART makes of an object: a LOADING one becomes FREE, another loses its references. -/
def restartedObject : Option StoredObject → Option StoredObject
  | some x => if x.state = .loading then none else some { x with references := 0 }
  | none => none

/-- The pages an object gives back at a RESTART: those of a LOADING one. -/
def returnedPages : Option StoredObject → List Nat
  | some x => if x.state = .loading then x.pages else []
  | none => []

theorem restartedObject_twice (x : Option StoredObject) :
    restartedObject (restartedObject x) = restartedObject x := by
  cases x with
  | none => rfl
  | some x =>
    by_cases loading : x.state = .loading
    · simp [restartedObject, loading]
    · simp [restartedObject, loading]

/-- An object's RESTART: what becomes of it, and its pages put back into the pool. -/
theorem ObjectStore.restartObject_eq (st : ObjectStore) (o : Fin 128) :
    st.restartObject o =
      { st with
        objects := st.objects.set o (restartedObject st.objects[o])
        free := (returnedPages st.objects[o]).foldr insertPage st.free } := by
  unfold ObjectStore.restartObject
  split
  · rename_i empty
    have same : st.objects.set o none = st.objects := by
      rw [← empty]
      exact Vector.set_getElem_self _
    rw [empty, restartedObject, same]
    rfl
  · rename_i x held
    rw [held]
    split
    · rename_i loading
      simp only [ObjectStore.freeObject, held, restartedObject, returnedPages, if_pos loading]
    · rename_i loaded
      simp only [ObjectStore.setObject, restartedObject, returnedPages, if_neg loaded, List.foldr_nil]

/-! ### The whole object store at a RESTART (R119) -/

theorem ObjectStore.restartObject_objects (st : ObjectStore) (o p : Fin 128) :
    (st.restartObject o).objects[p] =
      if p = o then restartedObject st.objects[p] else st.objects[p] := by
  rw [ObjectStore.restartObject_eq]
  show (st.objects.set o _)[p] = _
  rw [set_get]
  split
  · rename_i same
    rw [same]
  · rfl

/-- The objects of a list restarted one after the other, an object of the list once or more often. -/
theorem ObjectStore.restartObjects_objects (st : ObjectStore) (l : List (Fin 128)) (p : Fin 128) :
    (l.foldl ObjectStore.restartObject st).objects[p] =
      if p ∈ l then restartedObject st.objects[p] else st.objects[p] := by
  induction l generalizing st with
  | nil => rfl
  | cons o rest ih =>
    rw [List.foldl_cons, ih, ObjectStore.restartObject_objects]
    by_cases first : p = o
    · simp [first, restartedObject_twice]
    · simp [first]

/-- Nothing but the object table and the pool changes. -/
theorem ObjectStore.restartObjects_eq (st : ObjectStore) (l : List (Fin 128)) :
    ∃ objects free, l.foldl ObjectStore.restartObject st
      = { st with objects := objects, free := free } := by
  induction l generalizing st with
  | nil => exact ⟨_, _, rfl⟩
  | cons o rest ih =>
    obtain ⟨objects, free, after⟩ := ih (st.restartObject o)
    exact ⟨objects, free, after.trans (by rw [ObjectStore.restartObject_eq])⟩

/-- The pool gains the pages of the LOADING objects. -/
theorem ObjectStore.restartObjects_free (st : ObjectStore) {l : List (Fin 128)} (once : l.Nodup) :
    (l.foldl ObjectStore.restartObject st).free.Perm
      (st.free ++ l.flatMap fun o => returnedPages st.objects[o]) := by
  induction l generalizing st with
  | nil => rw [List.flatMap_nil, List.append_nil]; exact .refl _
  | cons o rest ih =>
    obtain ⟨new, others⟩ := List.nodup_cons.mp once
    have first : (st.restartObject o).free.Perm (st.free ++ returnedPages st.objects[o]) := by
      rw [ObjectStore.restartObject_eq]
      exact insertPages_perm _ _
    have same : rest.flatMap (fun p => returnedPages (st.restartObject o).objects[p])
        = rest.flatMap fun p => returnedPages st.objects[p] :=
      List.flatMap_congr fun p hp => by
        rw [ObjectStore.restartObject_objects, if_neg fun e : p = o => new (e ▸ hp)]
    rw [List.foldl_cons, List.flatMap_cons, ← List.append_assoc, ← same]
    exact (ih (st.restartObject o) others).trans (first.append_right _)

theorem ObjectStore.restartObjects_ascending (l : List (Fin 128)) {st : ObjectStore}
    (h : st.free.Pairwise (· ≤ ·)) :
    (l.foldl ObjectStore.restartObject st).free.Pairwise (· ≤ ·) := by
  induction l generalizing st with
  | nil => exact h
  | cons o rest ih =>
    refine ih ?_
    rw [ObjectStore.restartObject_eq]
    exact insertPages_ascending h

section Store

variable (st : ObjectStore)

theorem ObjectStore.restart_objects (o : Fin 128) :
    st.restart.objects[o] = restartedObject st.objects[o] := by
  rw [ObjectStore.restart, ObjectStore.restartObjects_objects, if_pos (List.mem_finRange o)]

theorem ObjectStore.restart_free :
    st.restart.free.Perm
      (st.free ++ (List.finRange 128).flatMap fun o => returnedPages st.objects[o]) :=
  st.restartObjects_free (List.nodup_finRange 128)

theorem ObjectStore.restart_keeps :
    st.restart.memory = st.memory ∧ st.restart.differing = st.differing ∧
      st.restart.corrected = st.corrected ∧ st.restart.uncorrectable = st.uncorrectable ∧
      st.restart.correctedCapture = st.correctedCapture ∧
      st.restart.uncorrectableCapture = st.uncorrectableCapture := by
  obtain ⟨objects, free, after⟩ := st.restartObjects_eq (List.finRange 128)
  rw [ObjectStore.restart, after]
  exact ⟨rfl, rfl, rfl, rfl, rfl, rfl⟩

/-- The pages an object gives back are among its own. -/
theorem ObjectStore.returnedPages_sublist (o : Fin 128) :
    (returnedPages st.objects[o]).Sublist (st.pagesOf o) := by
  unfold ObjectStore.pagesOf
  cases st.objects[o] with
  | none => exact .refl _
  | some x =>
    by_cases loading : x.state = .loading
    · simp [returnedPages, loading]
    · simp [returnedPages, loading]

end Store

/-- The pool stays in ascending order without a page twice: what joins it were pages of objects (R102). -/
theorem PageLaw.restart_pool {s : State} (h : PageLaw s) :
    s.store.restart.free.Pairwise (· < ·) := by
  have ascending : s.store.restart.free.Pairwise (· ≤ ·) :=
    ObjectStore.restartObjects_ascending _ (h.pool.imp le_of_lt)
  have once : s.store.restart.free.Nodup := by
    refine s.store.restart_free.nodup_iff.mpr ?_
    have part := (List.Sublist.refl s.store.free).append
      (List.Sublist.flatMap_right (List.finRange 128) fun o _ => s.store.returnedPages_sublist o)
    exact (h.whole.nodup_iff.mpr List.nodup_range).sublist part
  exact (ascending.and once).imp fun ⟨le, ne⟩ => lt_of_le_of_ne le ne

/-! ### The other blocks at a RESTART -/

/-- The report records but READY: flag and count cleared, level and detail kept (R194). -/
theorem Control.restarted_report (c : Control) (tag : Octet) {i : Fin 24} (h : i ≠ 23) :
    (c.restarted tag).reports[i] = c.reports[i].clear := by
  show (updateAt (mapTable ReportRecord.clear c.reports) 23 _)[i] = _
  rw [updateAt_other _ _ h, mapTable_get]

/-- READY is raised once, with the cause RESTART (R194). -/
theorem Control.restarted_ready (c : Control) (tag : Octet) :
    (c.restarted tag).reports[(23 : Fin 24)] =
      { level := c.reports[(23 : Fin 24)].level, pending := true, count := 1
        detail := [3, 0, 0, 0, 0, 0, 0, 0] } := by
  show (updateAt (mapTable ReportRecord.clear c.reports) 23 _)[(23 : Fin 24)] = _
  rw [updateAt_same, mapTable_get]
  rfl

theorem Control.restarted_level (c : Control) (tag : Octet) (i : Fin 24) :
    ((c.restarted tag).reports[i]).level = c.reports[i].level := by
  by_cases ready : i = 23
  · rw [ready, Control.restarted_ready]
  · rw [Control.restarted_report c tag ready]
    rfl

/-- A port that is not enabled loses its counts only (R64). -/
theorem Port.restart_not_enabled {p : Port} (h : p.config.enabled = false) :
    p.restart = { p with counters := PortCounters.zero } := by simp [Port.restart, h]

/-- An enabled port enters LISTEN (R41, R64). -/
theorem Port.restart_enabled {p : Port} (h : p.config.enabled = true) :
    p.restart = { p with counters := PortCounters.zero }.enterListen := by simp [Port.restart, h]

theorem Lock.cleared_eq (l : Lock) : l.cleared = if l = .fixed then .fixed else .none := by
  cases l <;> rfl

theorem State.restart_lane (s : State) (tag : Octet) (i : Fin 32) (k : ObjectKind) :
    (s.restart tag).lane i k = Lane.initial := by
  cases k <;> simp [State.lane, State.restart, Carousel.initial, Carousel.lane]

end Sys2Proof.Machine

open Sys2Proof Sys2Proof.Machine

/-- Settles O8: each block by what it does at a RESTART. -/
theorem restartValues : Obligations.RestartValues := by
  intro s tag
  obtain ⟨memory, differing, corrected, uncorrectable, correctedCapture, uncorrectableCapture⟩ :=
    s.store.restart_keeps
  have ready := s.control.restarted_ready tag
  refine ⟨s.restart tag, rfl, rfl, rfl, rfl, rfl, rfl, rfl, rfl, rfl, rfl, rfl, fun i => ?_,
    congrArg ReportRecord.pending ready, congrArg ReportRecord.count ready,
    congrArg ReportRecord.detail ready, rfl, rfl, fun n => ⟨fun off => ?_, fun on => ?_⟩,
    fun n => mapTable_get _ _ n, fun n => mapTable_get _ _ n, fun i => ?_, rfl, rfl, rfl, rfl, rfl, rfl,
    fun i => ⟨vector_replicate_get _ i, vector_replicate_get _ i, vector_replicate_get _ i⟩,
    s.store.restart_objects, s.store.restart_free, PageLaw.restart_pool,
    memory, differing, corrected, uncorrectable, correctedCapture, uncorrectableCapture,
    rfl, rfl, s.restart_lane tag, rfl, rfl⟩
  · refine ⟨s.control.restarted_level tag i, fun other => ?_⟩
    have report : (s.restart tag).control.reports[i] = s.control.reports[i].clear :=
      s.control.restarted_report tag other
    rw [report]
    exact ⟨rfl, rfl, rfl⟩
  · exact (mapTable_get _ _ n).trans (Port.restart_not_enabled off)
  · exact (mapTable_get _ _ n).trans (Port.restart_enabled on)
  · have slot : (s.restart tag).templates.slots[i]
        = { s.templates.slots[i] with lock := s.templates.slots[i].lock.cleared } := mapTable_get _ _ i
    rw [slot]
    exact ⟨rfl, Lock.cleared_eq _⟩

end

section
/-! PROOFS. The commands that leave the contributor ports alone. -/

namespace Sys2Proof.Machine

/-- Operations done one after the other leave a part of the state alone if each of them does. -/
theorem foldl_field {α β : Type} {f : State → α → State} (g : State → β) (h : ∀ u x, g (f u x) = g u)
    (l : List α) (s : State) : g (l.foldl f s) = g s := by
  induction l generalizing s with
  | nil => rfl
  | cons x rest ih => rw [List.foldl_cons, ih, h]

section PortsKept

variable (s : State)

/-! ### Services, plans, the object store, carousels -/

@[simp] theorem State.removeEntry_ports (i : Fin 32) (k : ObjectKind) (e : CarouselEntry) :
    (s.removeEntry i k e).ports = s.ports := rfl

@[simp] theorem State.removeId_ports (id : Nat) : (s.removeId id).ports = s.ports := by
  unfold State.removeId
  split <;> rfl

@[simp] theorem State.clearLane_ports (i : Fin 32) (k : ObjectKind) :
    (s.clearLane i k).ports = s.ports :=
  foldl_field State.ports (fun u e => u.removeEntry_ports i k e) _ s

@[simp] theorem State.carouselCell_ports (i : Fin 32) (first : Bool) :
    (s.carouselCell i first).1.ports = s.ports := by
  unfold State.carouselCell
  split
  · rfl
  · exact State.raiseAll_ports _ _

theorem svcSet_ports (b : Octets) : (svcSet b s).1.ports = s.ports := by
  unfold svcSet
  repeat' split
  all_goals rfl

theorem svcDrop_ports (b : Octets) : (svcDrop b s).1.ports = s.ports := by
  unfold svcDrop
  repeat' split
  all_goals simp [State.dropService]

theorem planEdit_ports (b : Octets) : (planEdit b s).1.ports = s.ports := by
  unfold planEdit
  dsimp only
  repeat' split
  all_goals rfl

theorem planCopy_ports (b : Octets) : (planCopy b s).1.ports = s.ports := by
  unfold planCopy
  split <;> rfl

theorem planCommit_ports (b : Octets) : (planCommit b s).1.ports = s.ports := by
  unfold planCommit
  repeat' split
  all_goals rfl

theorem planWithdraw_ports (b : Octets) : (planWithdraw b s).1.ports = s.ports := by
  unfold planWithdraw
  repeat' split
  all_goals rfl

theorem objOpen_ports (b : Octets) : (objOpen b s).1.ports = s.ports := by
  unfold objOpen
  dsimp only
  repeat' split
  all_goals rfl

theorem objLoad_ports (b : Octets) : (objLoad b s).1.ports = s.ports := by
  unfold objLoad
  dsimp only
  repeat' split
  all_goals rfl

theorem objClose_ports (b : Octets) : (objClose b s).1.ports = s.ports := by
  unfold objClose
  repeat' split
  all_goals rfl

theorem objDrop_ports (b : Octets) : (objDrop b s).1.ports = s.ports := by
  have removals (ids : List Nat) : (ids.foldl State.removeId s).ports = s.ports :=
    foldl_field State.ports State.removeId_ports ids s
  unfold objDrop
  dsimp only
  repeat' split
  all_goals simp [removals]

theorem objRead_ports (b : Octets) : (objRead b s).1.ports = s.ports := by
  unfold objRead
  dsimp only
  repeat' split
  all_goals simp

theorem bitFault_ports (page : Fin 1024) (group : Fin 32) (bits : List Nat) :
    (bitFault page group bits s).ports = s.ports := rfl

theorem carAdd_ports (b : Octets) : (carAdd b s).1.ports = s.ports := by
  unfold carAdd
  repeat' split
  all_goals rfl

theorem carRemove_ports (b : Octets) : (carRemove b s).1.ports = s.ports := by
  unfold carRemove
  split <;> rfl

theorem carClear_ports (b : Octets) : (carClear b s).1.ports = s.ports := by
  unfold carClear
  repeat' split
  all_goals simp

theorem carResume_ports (b : Octets) : (carResume b s).1.ports = s.ports := by
  unfold carResume
  repeat' split
  all_goals rfl

/-! ### Templates, alerts, trigger lines, cue filters -/

theorem tplErase_ports (b : Octets) : (tplErase b s).1.ports = s.ports := by
  unfold tplErase
  repeat' split
  all_goals rfl

theorem tplWrite_ports (b : Octets) : (tplWrite b s).1.ports = s.ports := by
  unfold tplWrite
  repeat' split
  all_goals rfl

theorem tplLock_ports (b : Octets) : (tplLock b s).1.ports = s.ports := by
  unfold tplLock
  dsimp only
  repeat' split
  all_goals rfl

theorem tplUnlock_ports (b : Octets) : (tplUnlock b s).1.ports = s.ports := by
  unfold tplUnlock
  repeat' split
  all_goals rfl

theorem eraseEnd_ports : (eraseEnd s).ports = s.ports := by
  unfold eraseEnd
  split <;> rfl

theorem writeEnd_ports : (writeEnd s).ports = s.ports := by
  unfold writeEnd
  split <;> rfl

@[simp] theorem State.endAlert_ports (a : Alert) (reason : EndReason) :
    (s.endAlert a reason).ports = s.ports := rfl

@[simp] theorem State.releaseAlert_ports (origin : Origin) :
    (s.releaseAlert origin).ports = s.ports := by
  unfold State.releaseAlert
  repeat' split
  all_goals rfl

@[simp] theorem State.admitFor_ports (origin : Origin) (c : AlertContent) :
    (s.admitFor origin c).ports = s.ports := by
  unfold State.admitFor
  dsimp only
  split <;> simp

@[simp] theorem State.sourceRequest_ports (origin : Origin) (c : SourceContent) :
    (s.sourceRequest origin c).ports = s.ports := by
  unfold State.sourceRequest State.sourceAdmission
  dsimp only
  repeat' split
  all_goals simp

theorem alertRaise_ports (b : Octets) : (alertRaise b s).1.ports = s.ports := by
  unfold alertRaise
  dsimp only
  repeat' split
  all_goals simp

theorem alertClear_ports (b : Octets) : (alertClear b s).1.ports = s.ports := by
  unfold alertClear
  repeat' split
  all_goals rfl

theorem alertTimerExpiry_ports (n : Octet) : (alertTimerExpiry n s).ports = s.ports := by
  unfold alertTimerExpiry
  repeat' split
  all_goals rfl

@[simp] theorem State.trigger_ports (n : Fin 4) (edge : Edge) (mode : LineMode) :
    (s.trigger n edge mode).ports = s.ports := by simp [State.trigger, State.raiseTrigger]

@[simp] theorem State.acceptedEdge_ports (n : Fin 4) (edge : Edge) :
    (s.acceptedEdge n edge).ports = s.ports := by
  unfold State.acceptedEdge
  dsimp only
  repeat' split
  all_goals simp [State.raiseTrigger]

@[simp] theorem State.becomeActive_ports (n : Fin 4) : (s.becomeActive n).ports = s.ports := by
  unfold State.becomeActive
  repeat' split
  all_goals simp

theorem filterTimerExpiry_ports (n : Fin 4) : (filterTimerExpiry n s).ports = s.ports := by
  unfold filterTimerExpiry
  dsimp only
  repeat' split
  all_goals simp

theorem trigSet_ports (b : Octets) : (trigSet b s).1.ports = s.ports := by
  unfold trigSet
  dsimp only
  repeat' split
  all_goals simp

theorem triggerRawChange_ports (n : Fin 4) (level : PinLevel) :
    (triggerRawChange n level s).ports = s.ports := rfl

theorem cueSet_ports (b : Octets) : (cueSet b s).1.ports = s.ports := by
  unfold cueSet
  repeat' split
  all_goals rfl

theorem cueRead_ports (b : Octets) : (cueRead b s).1.ports = s.ports := by
  unfold cueRead
  split <;> rfl

@[simp] theorem State.handOn_ports (n : Fin 8) (k : Fin 4) (b : Octets) :
    (s.handOn n k b).ports = s.ports := by
  refine foldl_field State.ports (fun u m => ?_) _ s
  unfold State.examine
  dsimp only
  repeat' split
  all_goals simp

/-! ### The assembler and the output link -/

@[simp] theorem State.putBack_ports (a : Assembly) : (s.putBack a).ports = s.ports :=
  State.raiseAll_ports _ _

@[simp] theorem State.startFrame_ports : s.startFrame.1.ports = s.ports := State.raiseAll_ports _ _

theorem framePull_ports : (framePull s).ports = s.ports := by
  unfold framePull
  split
  · rfl
  · exact s.startFrame_ports
  · rfl
  · unfold State.answerPull
    split
    · exact s.startFrame_ports
    · exact s.startFrame_ports
    · split <;> rfl

theorem cellRequest_ports : (cellRequest s).ports = s.ports := by
  unfold cellRequest
  dsimp only
  repeat' split
  all_goals simp

theorem alertCellRequest_ports : (alertCellRequest s).ports = s.ports := by
  unfold alertCellRequest
  dsimp only
  repeat' split
  all_goals simp [State.alertTextCell]

theorem frameAssemblyComplete_ports : (frameAssemblyComplete s).ports = s.ports := by
  unfold frameAssemblyComplete
  repeat' split
  all_goals simp [State.setWork]

theorem outputTransmissionEnd_ports : (outputTransmissionEnd s).ports = s.ports := rfl

theorem stallTimerExpiry_ports : (stallTimerExpiry s).ports = s.ports := by
  unfold stallTimerExpiry
  split <;> rfl

/-! ### The control unit -/

theorem messageReceived_ports (octets : List LineOctet) :
    (messageReceived octets s).ports = s.ports := rfl

theorem transmitterFree_ports : (transmitterFree s).ports = s.ports := rfl

theorem unknownKind_ports : (unknownKind s).ports = s.ports := by
  unfold unknownKind
  repeat' split
  all_goals rfl

theorem startingEnd_ports : (startingEnd s).ports = s.ports := by
  unfold startingEnd
  repeat' split
  all_goals rfl

theorem reportSet_ports (b : Octets) : (reportSet b s).1.ports = s.ports := by
  unfold reportSet
  split <;> rfl

end PortsKept

end Sys2Proof.Machine

end

section
/-! PROOFS. What a port's state allows it to hold (R38, R47, R56), and that every step keeps it. -/

namespace Sys2Proof.Machine

/-! ### Setting a port and reading it back -/

theorem State.setPort_get (s : State) (n m : Fin 8) (p : Port) :
    (s.setPort n p).ports[m] = if m = n then p else s.ports[m] := set_get s.ports n m p

theorem State.setPort_same (s : State) (n : Fin 8) (p : Port) : (s.setPort n p).ports[n] = p := by
  rw [State.setPort_get, if_pos rfl]

@[simp] theorem State.setPort_setPort (s : State) (n : Fin 8) (p q : Port) :
    (s.setPort n p).setPort n q = s.setPort n q := by simp [State.setPort, State.withPorts]

@[simp] theorem State.setPort_self (s : State) (n : Fin 8) : s.setPort n s.ports[n] = s := by
  simp [State.setPort, State.withPorts]

/-! ### The law of one port -/

/-- What a port's state allows it to hold. -/
structure Port.Lawful (p : Port) : Prop where
  bare : p.state.carries = false →
    p.format = none ∧ p.streams = none ∧ ∀ k : Fin 4, p.queues[k] = []
  depth : ∀ k : Fin 4, p.queues[k].length ≤ 4
  closing : p.exchange.closing.isSome = true → p.state = .acking

theorem portLaw_iff (s : State) : PortLaw s ↔ ∀ n : Fin 8, s.ports[n].Lawful :=
  ⟨fun h n => ⟨h.bare n, h.depth n, h.closing n⟩,
    fun h => ⟨fun n => (h n).bare, fun n => (h n).depth, fun n => (h n).closing⟩⟩

theorem PortLaw.setPort {s : State} (h : PortLaw s) {n : Fin 8} {p : Port} (hp : p.Lawful) :
    PortLaw (s.setPort n p) := by
  rw [portLaw_iff] at h ⊢
  intro m
  rw [State.setPort_get]
  split
  · exact hp
  · exact h m

/-- The law looks at the ports only. -/
theorem PortLaw.of_ports_eq {s t : State} (h : PortLaw s) (kept : t.ports = s.ports) : PortLaw t := by
  rw [portLaw_iff] at h ⊢
  rwa [kept]

theorem portLaw_controlFree : ControlFree PortLaw := fun _ _ h => h.of_ports_eq rfl

/-- An empty port may be in any state, if it is not closing outside ACKING. -/
theorem Port.Lawful.of_empty {p : Port} (format : p.format = none) (streams : p.streams = none)
    (queues : ∀ k : Fin 4, p.queues[k] = [])
    (closing : p.exchange.closing.isSome = true → p.state = .acking) : p.Lawful :=
  ⟨fun _ => ⟨format, streams, queues⟩, fun k => by simp [queues k], closing⟩

/-- A port that carries audio keeps the law as long as its queues have room and it is not closing. -/
theorem Port.Lawful.of_carries {p : Port} (state : p.state.carries = true)
    (depth : ∀ k : Fin 4, p.queues[k].length ≤ 4) (closing : p.exchange.closing = none) : p.Lawful :=
  ⟨fun h => by simp [state] at h, depth, fun h => by simp [closing] at h⟩

/-- The law looks at five fields. -/
theorem Port.Lawful.of_fields_eq {p q : Port} (h : p.Lawful) (state : q.state = p.state)
    (format : q.format = p.format) (streams : q.streams = p.streams) (queues : q.queues = p.queues)
    (closing : q.exchange.closing = p.exchange.closing) : q.Lawful :=
  ⟨fun hs => by rw [format, streams, queues]; exact h.bare (state ▸ hs),
    fun k => by rw [queues]; exact h.depth k,
    fun hc => by rw [state]; exact h.closing (closing ▸ hc)⟩

/-- A port not in ACKING is not closing. -/
theorem Port.Lawful.not_closing {p : Port} (h : p.Lawful) (state : p.state ≠ .acking) :
    p.exchange.closing = none :=
  Option.not_isSome_iff_eq_none.mp fun hc => state (h.closing hc)

/-- A negotiating port carries no audio (R38, R49). -/
theorem PortState.negotiates_carries {x : PortState} (h : x.negotiates = true) : x.carries = false := by
  revert h
  cases x <;> decide

@[simp] theorem Port.bare_queue (p : Port) (k : Fin 4) : p.bare.queues[k] = [] :=
  vector_replicate_get [] k

/-! ### What a port's own work keeps -/

theorem Port.Lawful.initial : Port.initial.Lawful :=
  .of_empty rfl rfl (vector_replicate_get []) nofun

theorem Port.enterListen_lawful (p : Port) : p.enterListen.Lawful :=
  .of_empty rfl rfl p.bare_queue nofun

theorem Port.disable_lawful (p : Port) : p.disable.Lawful := .of_empty rfl rfl p.bare_queue nofun

theorem Port.configure_lawful (p : Port) (c : PortConfig) : (p.configure c).Lawful := by
  unfold Port.configure
  split
  · exact Port.enterListen_lawful _
  · exact Port.disable_lawful _

theorem Port.Lawful.restart {p : Port} (h : p.Lawful) : p.restart.Lawful := by
  unfold Port.restart
  split
  · exact Port.enterListen_lawful _
  · exact h.of_fields_eq rfl rfl rfl rfl rfl

theorem Port.Lawful.tick {p : Port} (h : p.Lawful) : p.tick.Lawful := h.of_fields_eq rfl rfl rfl rfl rfl

theorem Port.Lawful.heard {p : Port} (h : p.Lawful) : p.heard.Lawful :=
  h.of_fields_eq rfl rfl rfl rfl rfl

/-- Resolution comes from ACKING, where the port holds nothing (R47). -/
theorem Port.Lawful.resolve {p : Port} (h : p.Lawful) (state : p.state = .acking) (n : Fin 8) :
    (p.resolve n).1.Lawful := by
  obtain ⟨format, streams, queues⟩ := h.bare (by rw [state]; rfl)
  unfold Port.resolve
  dsimp only
  split
  · exact .of_empty format streams queues nofun
  · exact .of_carries rfl h.depth rfl

theorem Port.Lawful.sendWord {p : Port} (h : p.Lawful) (n : Fin 8) : (p.sendWord n).1.Lawful := by
  unfold Port.sendWord
  dsimp only
  split
  · exact h.of_fields_eq rfl rfl rfl rfl rfl
  · rename_i k hk
    have acking : p.state = .acking := h.closing (by rw [hk]; rfl)
    obtain ⟨format, streams, queues⟩ := h.bare (by rw [acking]; rfl)
    have counted : Port.Lawful
        { p with
          period := some wordPeriod, sent := some (p.word (decide (p.state = .acking)))
          exchange := { p.exchange with closing := some (k + 1) } } :=
      .of_empty format streams queues fun _ => acking
    split
    · exact counted
    · exact counted.resolve acking n

theorem Port.Lawful.matchWord {p : Port} (h : p.Lawful) (state : p.state = .offering) (w : OfferWord) :
    (p.matchWord w).Lawful := by
  obtain ⟨format, streams, queues⟩ := h.bare (by rw [state]; rfl)
  unfold Port.matchWord
  extract_lets matched kept
  split
  · exact h.of_fields_eq rfl rfl rfl rfl rfl
  · exact .of_empty format streams queues fun _ => rfl

theorem Port.Lawful.ackWord {p : Port} (h : p.Lawful) (state : p.state = .acking) (w : OfferWord) :
    (p.ackWord w).Lawful := by
  obtain ⟨format, streams, queues⟩ := h.bare (by rw [state]; rfl)
  unfold Port.ackWord
  split
  · split
    · exact h.of_fields_eq rfl rfl rfl rfl rfl
    · split
      · exact h.of_fields_eq rfl rfl rfl rfl rfl
      · exact .of_empty format streams queues fun _ => state
  · exact .of_empty format streams queues nofun

theorem Port.Lawful.takeWord {p : Port} (h : p.Lawful) (w : OfferWord) : (p.takeWord w).Lawful := by
  unfold Port.takeWord
  dsimp only
  split
  · exact h.heard
  · exact h.heard
  · rename_i state
    obtain ⟨format, streams, queues⟩ := h.heard.bare (by rw [state]; rfl)
    exact .of_empty format streams queues nofun
  · exact h.heard.matchWord ‹_› w
  · split
    · exact h.heard
    · exact h.heard.ackWord ‹_› w
  · exact .of_empty rfl rfl p.heard.bare_queue nofun
  · exact .of_empty rfl rfl p.heard.bare_queue nofun

/-- The listen timer's expiry is taken in states in which the port holds nothing (R49, R50). -/
theorem Port.Lawful.listenExpiry {p : Port} (h : p.Lawful) (state : p.state.negotiates = true)
    (n : Fin 8) : (p.listenExpiry n).1.Lawful := by
  obtain ⟨format, streams, queues⟩ := h.bare (PortState.negotiates_carries state)
  unfold Port.listenExpiry
  split
  · unfold Port.sense
    dsimp only
    split
    · exact .of_carries rfl h.depth rfl
    · exact .of_empty format streams queues nofun
  · exact Port.enterListen_lawful _

theorem Port.Lawful.failedFrame {p : Port} (h : p.Lawful) : p.failedFrame.Lawful := by
  unfold Port.failedFrame
  split
  · exact h.of_fields_eq rfl rfl rfl rfl rfl
  · exact h

theorem Port.Lawful.seenFrame {p : Port} (h : p.Lawful) (f : Format) : (p.seenFrame f).Lawful := by
  unfold Port.seenFrame
  dsimp only
  split
  · exact h.heard.of_fields_eq rfl rfl rfl rfl rfl
  · exact h.heard

/-- A frame joins a queue of a port that carries audio, the oldest of 4 discarded (R56). -/
theorem Port.Lawful.enqueue {p : Port} (h : p.Lawful) (state : p.state.carries = true) (n : Fin 8)
    (k : Fin 4) (f : QueuedFrame) : (p.enqueue n k f).1.Lawful := by
  have open_exchange := h.not_closing fun acking => by rw [acking] at state; cases state
  have depth (q : List QueuedFrame) (hq : q.length ≤ 4) (j : Fin 4) :
      ((p.queues.set k q)[j]).length ≤ 4 := by
    rw [set_get]
    split
    · exact hq
    · exact h.depth j
  have room := h.depth k
  unfold Port.enqueue
  dsimp only
  split
  · exact .of_carries state (depth _ (by rw [List.length_append, List.length_singleton]; omega))
      open_exchange
  · refine .of_carries state (depth _ ?_) open_exchange
    rw [List.length_append, List.length_drop, List.length_singleton]
    omega

/-- A take leaves a queue shorter, and an empty one counts an underrun (R57). -/
theorem PortLaw.takeStream {s : State} (h : PortLaw s) (x : Stream) : PortLaw (s.takeStream x).1 := by
  have port := (portLaw_iff s).mp h x.port
  unfold State.takeStream
  dsimp only
  split
  · rename_i f rest hq
    have depth (j : Fin 4) : ((s.ports[x.port].queues.set x.number rest)[j]).length ≤ 4 := by
      have := port.depth x.number
      rw [hq, List.length_cons] at this
      rw [set_get]
      split
      · omega
      · exact port.depth j
    refine h.setPort ⟨fun quiet => ?_, depth, port.closing⟩
    obtain ⟨_, _, queues⟩ := port.bare quiet
    rw [queues x.number] at hq
    cases hq
  · exact portLaw_controlFree.raise _ _ (h.setPort (port.of_fields_eq rfl rfl rfl rfl rfl))

/-! ### What each command with a port in it keeps -/

section Kept

variable {s : State}

theorem PortLaw.portEvent (h : PortLaw s) (n : Fin 8) {work : Port → Port × Events}
    (lawful : s.ports[n].Lawful → (work s.ports[n]).1.Lawful) : PortLaw (s.portEvent n work) :=
  portLaw_controlFree.raiseAll _ (h.setPort (lawful ((portLaw_iff s).mp h n)))

theorem PortLaw.portSet (h : PortLaw s) (b : Octets) : PortLaw (portSet b s).1 := by
  unfold Machine.portSet
  split
  · exact h
  · exact h.setPort (Port.configure_lawful _ _)

theorem PortLaw.portRenegotiate (h : PortLaw s) (b : Octets) : PortLaw (portRenegotiate b s).1 := by
  unfold Machine.portRenegotiate
  repeat' split
  · exact h
  · exact h
  · exact h.setPort (Port.enterListen_lawful _)

theorem PortLaw.portRead (h : PortLaw s) (b : Octets) : PortLaw (portRead b s).1 := by
  unfold Machine.portRead
  split
  · exact h
  · exact h.setPort (((portLaw_iff s).mp h _).of_fields_eq rfl rfl rfl rfl rfl)

theorem PortLaw.offerWordPeriod (h : PortLaw s) (n : Fin 8) : PortLaw (offerWordPeriod n s) := by
  unfold Machine.offerWordPeriod
  split
  · exact h.portEvent n fun port => port.sendWord n
  · exact h

theorem PortLaw.listenTimerExpiry (h : PortLaw s) (n : Fin 8) : PortLaw (listenTimerExpiry n s) := by
  unfold Machine.listenTimerExpiry
  split
  · rename_i due
    exact h.portEvent n fun port => port.listenExpiry (Bool.and_eq_true_iff.mp due).2 n
  · exact h

theorem PortLaw.linkTimerExpiry (h : PortLaw s) (n : Fin 8) : PortLaw (linkTimerExpiry n s) := by
  unfold Machine.linkTimerExpiry
  split
  · exact h.portEvent n fun _ => Port.enterListen_lawful _
  · exact h

/-- A frame accepted on a port that carries audio (R54 to R56, R59). -/
theorem PortLaw.acceptFrame (h : PortLaw s) {n : Fin 8} (state : s.ports[n].state.carries = true)
    (k : Fin 4) (f : ContributionFrame) : PortLaw (s.acceptFrame n k f) := by
  have joined : PortLaw (s.portEvent n fun p => (p.track k f.sequence).enqueue n k f.queued) :=
    h.portEvent n fun port =>
      Port.Lawful.enqueue (port.of_fields_eq (q := s.ports[n].track k f.sequence) rfl rfl rfl rfl rfl)
        state n k f.queued
  exact joined.of_ports_eq (State.handOn_ports _ n k f.ancillary)

theorem PortLaw.takeFrame (h : PortLaw s) (n : Fin 8) (f : ContributionFrame) :
    PortLaw (s.takeFrame n f) := by
  have seen := h.setPort (n := n) (((portLaw_iff s).mp h n).seenFrame f.format)
  unfold State.takeFrame
  dsimp only
  split
  · rename_i state
    split
    · exact seen.acceptFrame state _ f
    · exact seen.setPort (((portLaw_iff _).mp seen n).of_fields_eq rfl rfl rfl rfl rfl)
  · exact seen

theorem PortLaw.takeItem (h : PortLaw s) (n : Fin 8) (i : LineItem) : PortLaw (s.takeItem n i) := by
  have port := (portLaw_iff s).mp h n
  cases i with
  | word w => exact h.setPort (port.takeWord w)
  | frame f => exact h.takeFrame n f
  | failedFrame => exact h.setPort port.failedFrame

theorem PortLaw.lineOctets (h : PortLaw s) (n : Fin 8) (b : Octets) : PortLaw (lineOctets n b s) := by
  unfold Machine.lineOctets
  dsimp only
  split
  · exact h
  · refine List.foldlRecOn _ _ (h.setPort ?_) fun u hu i _ => PortLaw.takeItem hu n i
    exact ((portLaw_iff s).mp h n).of_fields_eq rfl rfl rfl rfl rfl

/-- The assembler's take is the only part of STREAM_TAKE that reaches a port (R57, R75). -/
theorem PortLaw.streamTake (h : PortLaw s) : PortLaw (streamTake s) := by
  have put (u : State) (a : Assembly) (hu : PortLaw u) : PortLaw (u.putBack a) :=
    hu.of_ports_eq (State.putBack_ports u a)
  unfold Machine.streamTake
  dsimp only
  repeat' split
  · exact h
  · exact put s _ h
  · exact put _ _ (h.takeStream _)
  · exact put s _ h

theorem PortLaw.restarted (h : PortLaw s) (tag : Octet) : PortLaw (s.restart tag) := by
  rw [portLaw_iff] at h ⊢
  intro n
  show (mapTable Port.restart s.ports)[n].Lawful
  rw [mapTable_get]
  exact (h n).restart

theorem PortLaw.restartRequest (h : PortLaw s) : PortLaw (restartRequest s) := by
  unfold Machine.restartRequest
  split
  · exact h
  · split
    · exact h.of_ports_eq rfl
    · unfold restartReady
      repeat' split
      · exact h.of_ports_eq rfl
      · exact h.of_ports_eq rfl
      · exact (portLaw_controlFree s _ h).restarted _

theorem PortLaw.restartAfterAssembly (h : PortLaw s) : PortLaw (restartAfterAssembly s) := by
  unfold Machine.restartAfterAssembly
  repeat' split
  · exact h
  · exact h
  · exact h.restarted _

/-- Power-on, hard reset and loss of power put every port at its power-on values (R63). -/
theorem State.started_portLaw (s : State) (c : Control) (t : TemplateStore) (p : Bool) :
    PortLaw (s.started c t p) :=
  (portLaw_iff _).mpr fun n => (vector_replicate_get Port.initial n).symm ▸ .initial

theorem PortLaw.tick (h : PortLaw s) : PortLaw s.tick := by
  rw [portLaw_iff] at h ⊢
  intro n
  show (mapTable Port.tick s.ports)[n].Lawful
  rw [mapTable_get]
  exact (h n).tick

end Kept

/-! ### Every command, and every step -/

section Steps

variable {s t : State}

/-- An event whose effect keeps the law. -/
theorem event_portLaw {f : State → State} (work : ∀ u, PortLaw u → PortLaw (f u)) (hs : PortLaw s)
    (h : event f s = .next t) : PortLaw t :=
  event_keeps (fun _ hu => portLaw_controlFree.choose hu) (fun _ hu => work s hu) hs h

/-- A request whose owner keeps it. -/
theorem request_portLaw {c : Instr} {owner : Octets → State → State × Answer}
    (work : ∀ u, PortLaw u → ∀ b, PortLaw (owner b u).1) (hs : PortLaw s)
    (h : event (request c owner) s = .next t) : PortLaw t :=
  exec_request_keeps portLaw_controlFree (fun b u hu => work u hu b) hs h

/-- An event whose effect leaves the ports alone. -/
theorem event_portLaw_of_kept {f : State → State} (work : ∀ u, (f u).ports = u.ports) (hs : PortLaw s)
    (h : event f s = .next t) : PortLaw t := event_portLaw (fun u hu => hu.of_ports_eq (work u)) hs h

/-- A request whose owner leaves the ports alone. -/
theorem request_portLaw_of_kept {c : Instr} {owner : Octets → State → State × Answer}
    (work : ∀ u b, (owner b u).1.ports = u.ports) (hs : PortLaw s)
    (h : event (request c owner) s = .next t) : PortLaw t :=
  request_portLaw (fun u hu b => hu.of_ports_eq (work u b)) hs h

theorem PortLaw.triggerRawChange {n : Fin 4} {level : PinLevel} (hs : PortLaw s)
    (h : execTriggerRawChange n level s = .next t) : PortLaw t := by
  unfold execTriggerRawChange at h
  split at h
  · exact event_portLaw_of_kept (triggerRawChange_ports · n level) hs h
  · cases h
    exact hs.of_ports_eq rfl

/-- Every command, by the lemma on its own work. -/
theorem PortLaw.exec (c : Instr) (hs : PortLaw s) (h : exec c s = .next t) : PortLaw t := by
  cases c with
  | powerOn straps => cases h; exact s.started_portLaw _ _ _
  | hardReset straps =>
    change Host.Outcome.next _ = _ at h
    split at h
    all_goals cases h
    · exact s.started_portLaw _ _ _
    · exact hs
  | lossOfPower => cases h; exact s.started_portLaw _ _ _
  | portSet => exact request_portLaw (fun _ => PortLaw.portSet) hs h
  | portRenegotiate => exact request_portLaw (fun _ => PortLaw.portRenegotiate) hs h
  | portRead => exact request_portLaw (fun _ => PortLaw.portRead) hs h
  | restart => exact event_portLaw (fun _ => PortLaw.restartRequest) hs h
  | restartAfterAssembly => exact event_portLaw (fun _ => PortLaw.restartAfterAssembly) hs h
  | streamTake => exact event_portLaw (fun _ => PortLaw.streamTake) hs h
  | offerWordReceived n octets | contributionFrame n octets =>
    exact event_portLaw (fun _ hu => hu.lineOctets n octets) hs h
  | offerWordPeriod n => exact event_portLaw (fun _ hu => hu.offerWordPeriod n) hs h
  | listenTimerExpiry n => exact event_portLaw (fun _ hu => hu.listenTimerExpiry n) hs h
  | linkTimerExpiry n => exact event_portLaw (fun _ hu => hu.linkTimerExpiry n) hs h
  | triggerRawChange n level => exact hs.triggerRawChange h
  | svcRead | planRead | outputRead | directoryRead | storeStatus | storeClear | carRead | tplRead
  | trigRead | alertList | pendingRead | status | linkRead =>
    exact request_portLaw_of_kept (fun _ _ => rfl) hs h
  | svcSet => exact request_portLaw_of_kept svcSet_ports hs h
  | svcDrop => exact request_portLaw_of_kept svcDrop_ports hs h
  | planEdit => exact request_portLaw_of_kept planEdit_ports hs h
  | planCopy => exact request_portLaw_of_kept planCopy_ports hs h
  | planCommit => exact request_portLaw_of_kept planCommit_ports hs h
  | planWithdraw => exact request_portLaw_of_kept planWithdraw_ports hs h
  | objOpen => exact request_portLaw_of_kept objOpen_ports hs h
  | objLoad => exact request_portLaw_of_kept objLoad_ports hs h
  | objClose => exact request_portLaw_of_kept objClose_ports hs h
  | objDrop => exact request_portLaw_of_kept objDrop_ports hs h
  | objRead => exact request_portLaw_of_kept objRead_ports hs h
  | carAdd => exact request_portLaw_of_kept carAdd_ports hs h
  | carRemove => exact request_portLaw_of_kept carRemove_ports hs h
  | carClear => exact request_portLaw_of_kept carClear_ports hs h
  | carResume => exact request_portLaw_of_kept carResume_ports hs h
  | tplErase => exact request_portLaw_of_kept tplErase_ports hs h
  | tplWrite => exact request_portLaw_of_kept tplWrite_ports hs h
  | tplLock => exact request_portLaw_of_kept tplLock_ports hs h
  | tplUnlock => exact request_portLaw_of_kept tplUnlock_ports hs h
  | trigSet => exact request_portLaw_of_kept trigSet_ports hs h
  | cueSet => exact request_portLaw_of_kept cueSet_ports hs h
  | cueRead => exact request_portLaw_of_kept cueRead_ports hs h
  | alertRaise => exact request_portLaw_of_kept alertRaise_ports hs h
  | alertClear => exact request_portLaw_of_kept alertClear_ports hs h
  | reportSet => exact request_portLaw_of_kept reportSet_ports hs h
  | messageReceived octets => exact event_portLaw_of_kept (messageReceived_ports · octets) hs h
  | transmitterFree => exact event_portLaw_of_kept transmitterFree_ports hs h
  | outputTransmissionEnd => exact event_portLaw_of_kept outputTransmissionEnd_ports hs h
  | bitFault page group bits => exact event_portLaw_of_kept (bitFault_ports · page group bits) hs h
  | framePull => exact event_portLaw_of_kept framePull_ports hs h
  | startingEnd => exact event_portLaw_of_kept startingEnd_ports hs h
  | unknownKind => exact event_portLaw_of_kept unknownKind_ports hs h
  | cellRequest => exact event_portLaw_of_kept cellRequest_ports hs h
  | alertCellRequest => exact event_portLaw_of_kept alertCellRequest_ports hs h
  | frameAssemblyComplete => exact event_portLaw_of_kept frameAssemblyComplete_ports hs h
  | stallTimerExpiry => exact event_portLaw_of_kept stallTimerExpiry_ports hs h
  | filterTimerExpiry n => exact event_portLaw_of_kept (filterTimerExpiry_ports · n) hs h
  | alertTimerExpiry n => exact event_portLaw_of_kept (alertTimerExpiry_ports · n) hs h
  | eraseEnd => exact event_portLaw_of_kept eraseEnd_ports hs h
  | writeEnd => exact event_portLaw_of_kept writeEnd_ports hs h

end Steps

end Sys2Proof.Machine

open Sys2Proof Sys2Proof.Machine

/-- Settles O56: a millisecond by `PortLaw.tick`, a command by `PortLaw.exec`. -/
theorem portLawKept : Obligations.PortLawKept := by
  intro s t hs h
  unfold step at h
  split at h
  · cases h
    split
    · exact hs.tick
    · exact hs
  · rename_i c rest _
    exact PortLaw.exec c (s := s.withPending rest) (hs.of_ports_eq rfl) h

end

section
/-! PROOFS. Negotiation: PORT_SET and PORT_RENEGOTIATE, what an offer word does, and the expiries of the
offer word period, the listen timer and the link timer. -/

namespace Sys2Proof.Machine

/-! ### PORT_SET and PORT_RENEGOTIATE (R40, R41) -/

theorem flagOperand_flagOctet (b : Bool) : flagOperand (flagOctet b).toNat = some b := by cases b <;> rfl

/-- The body of PORT_SET for a port and a configuration. -/
def PortConfig.octets (c : PortConfig) (n : Fin 8) : Octets :=
  [octet n.val, flagOctet c.enabled, octet c.permitted.toNat] ++ be16 c.interval
    ++ [flagOctet c.sensing]

/-- A configuration within its ranges reads back from its body. -/
theorem portOperand_octets (n : Fin 8) {c : PortConfig} (h : c.Valid) :
    portOperand (c.octets n) = some (n, c) := by
  obtain ⟨least, greatest⟩ := h.interval
  have set_small : c.permitted.toNat < 64 := c.permitted.isLt
  have body : c.octets n = octet n.val :: flagOctet c.enabled :: octet c.permitted.toNat ::
      (be16 c.interval ++ [flagOctet c.sensing]) := rfl
  have port : toFin? 8 (field (c.octets n) 0) = some n := toFin?_field_octet n (by decide) _
  have enabled : flagOperand (field (c.octets n) 1) = some c.enabled := flagOperand_flagOctet _
  have permitted : field (c.octets n) 2 = c.permitted.toNat := octet_toNat (by omega)
  have interval : field16 (c.octets n) 3 = c.interval := by
    rw [body, field16_succ, field16_succ, field16_succ, field16_be16 (by omega)]
  have sensing : flagOperand (field (c.octets n) 5) = some c.sensing := flagOperand_flagOctet _
  simp only [portOperand, port, enabled, permitted, interval, sensing,
    rangeOperand_of_mem ⟨toNat_pos h.permitted, Nat.le_of_lt_succ set_small⟩,
    rangeOperand_of_mem ⟨least, greatest⟩, Option.bind_eq_bind, Option.bind_some]
  simp

/-- PORT_SET past its checks. -/
theorem portSet_done (s : State) (n : Fin 8) {c : PortConfig} (h : c.Valid) :
    portSet (c.octets n) s = (s.setPort n (s.ports[n].configure c), .plain .done) := by
  simp only [portSet, portOperand_octets n h]

theorem Port.configure_enabled (p : Port) {c : PortConfig} (h : c.enabled = true) :
    p.configure c = Port.enterListen { p with config := c } := if_pos h

theorem Port.configure_not_enabled (p : Port) {c : PortConfig} (h : c.enabled = false) :
    p.configure c = Port.disable { p with config := c } := if_neg (by simp [h])

theorem portRenegotiate_done {s : State} {n : Fin 8} (h : s.ports[n].state ≠ .disabled) :
    portRenegotiate [octet n.val] s = (s.setPort n s.ports[n].enterListen, .plain .done) := by
  simp only [portRenegotiate, toFin?_field_octet n (by decide), if_neg h]

theorem portRenegotiate_disabled {s : State} {n : Fin 8} (h : s.ports[n].state = .disabled) :
    portRenegotiate [octet n.val] s = (s, .plain .wrongState) := by
  simp only [portRenegotiate, toFin?_field_octet n (by decide), if_pos h]

/-! ### Valid offer words, by the port state (R43 to R48, R51) -/

section Words

variable {p : Port} {v w : OfferWord} {k : Nat}

theorem Port.heard_running (h : p.linkTimer = some k) : p.heard = { p with linkTimer := some 250 } := by
  simp [Port.heard, h, linkLimit]

theorem Port.heard_stopped (h : p.linkTimer = none) : p.heard = p := by
  cases p
  simp_all [Port.heard]

theorem Port.takeWord_listen (h : p.state = .listen) : p.takeWord w = p.heard.toOffering w := by
  have state : p.heard.state = .listen := h
  simp only [Port.takeWord, state]

theorem Port.takeWord_offering (h : p.state = .offering) : p.takeWord w = p.heard.matchWord w := by
  have state : p.heard.state = .offering := h
  simp only [Port.takeWord, state]

theorem Port.takeWord_acking (h : p.state = .acking) (closing : p.exchange.closing = none) :
    p.takeWord w = p.heard.ackWord w := by
  have state : p.heard.state = .acking := h
  have before : p.heard.exchange.closing = none := closing
  simp [Port.takeWord, state, before]

/-- In NO_COMMON, and in ACKING after completion, a word restarts the link timer only. -/
theorem Port.takeWord_ignored
    (h : p.state = .noCommon ∨ (p.state = .acking ∧ p.exchange.closing.isSome = true)) :
    p.takeWord w = p.heard := by
  rcases h with h | ⟨h, closing⟩
  · have state : p.heard.state = .noCommon := h
    simp only [Port.takeWord, state]
  · have state : p.heard.state = .acking := h
    have after : p.heard.exchange.closing.isSome = true := closing
    simp [Port.takeWord, state, after]

theorem Port.takeWord_carrying (h : p.state = .locked ∨ p.state = .sensed) :
    p.takeWord w = p.heard.restarted w := by
  rcases h with h | h
  · have state : p.heard.state = .locked := h
    simp only [Port.takeWord, state]
  · have state : p.heard.state = .sensed := h
    simp only [Port.takeWord, state]

theorem OfferWord.same_of_eq (h : v.formats = w.formats ∧ v.streams = w.streams) : v.same w = true :=
  decide_eq_true h

theorem OfferWord.same_of_ne (h : v.formats ≠ w.formats ∨ v.streams ≠ w.streams) :
    v.same w = false :=
  decide_eq_false fun ⟨formats, streams⟩ => h.elim (· formats) (· streams)

variable (held : p.exchange.previous = some v)

include held

/-- A third matching word leads to ACKING, an earlier one is counted (R45). -/
theorem Port.matchWord_same (same : v.same w = true) :
    p.matchWord w =
      if p.exchange.matched + 1 < 3 then
        { p with
          exchange := { p.exchange with previous := some w, matched := p.exchange.matched + 1 } }
      else
        { p with
          state := .acking
          exchange :=
            { p.exchange with previous := some w, matched := p.exchange.matched + 1, acked := 0 }
          linkTimer := some 250 } := by
  simp only [Port.matchWord, held, Option.any_some, same, if_true]
  rfl

/-- A word that differs starts the count afresh (R45). -/
theorem Port.matchWord_differs (differs : v.same w = false) :
    p.matchWord w = { p with exchange := { p.exchange with previous := some w, matched := 1 } } := by
  simp [Port.matchWord, held, differs]

/-- Before completion: a word without ack clears the count, the third with it completes (R46). -/
theorem Port.ackWord_same (same : v.same w = true) :
    p.ackWord w =
      if w.ack = false then { p with exchange := { p.exchange with acked := 0 } }
      else if p.exchange.acked + 1 < 3 then
        { p with exchange := { p.exchange with acked := p.exchange.acked + 1 } }
      else
        { p with
          exchange := { p.exchange with acked := p.exchange.acked + 1, closing := some 0 }
          listenTimer := none } := by
  simp [Port.ackWord, held, same]

theorem Port.ackWord_differs (differs : v.same w = false) : p.ackWord w = p.toOffering w := by
  simp [Port.ackWord, held, differs]

end Words

/-! ### A port's own work as an event (R42, R47, R49, R50, R52) -/

section Expiries

variable {s : State} {n : Fin 8} {p : Port} {work : Port → Port × Events}

theorem State.portEvent_quiet (h : work s.ports[n] = (p, [])) :
    s.portEvent n work = s.withPorts (s.ports.set n p) := by
  simp only [State.portEvent, h, State.raiseAll_nil]
  rfl

theorem State.portEvent_raising {src : ReportSource} {d : Octets}
    (h : work s.ports[n] = (p, [(src, d)])) :
    s.portEvent n work = (s.withPorts (s.ports.set n p)).raise src d := by
  simp only [State.portEvent, h, State.raiseAll_cons, State.raiseAll_nil]
  rfl

theorem Timer.not_due {t : Timer} (h : t ≠ some 0) : t.due = false := decide_eq_false h

theorem offerWordPeriod_due (h : s.ports[n].period = some 0) :
    offerWordPeriod n s = s.portEvent n fun p => p.sendWord n :=
  if_pos ((Timer.due_iff _).mpr h)

theorem listenTimerExpiry_due (h : s.ports[n].listenTimer = some 0)
    (state : s.ports[n].state.negotiates = true) :
    listenTimerExpiry n s = s.portEvent n fun p => p.listenExpiry n :=
  if_pos (by rw [(Timer.due_iff _).mpr h, state]; rfl)

theorem linkTimerExpiry_due (h : s.ports[n].linkTimer = some 0) :
    linkTimerExpiry n s = s.portEvent n fun p => p.loseLink n :=
  if_pos ((Timer.due_iff _).mpr h)

end Expiries

section Work

variable {p : Port} {f : Format} (n : Fin 8)

/-- The port after its word went out (R42). -/
def Port.afterWord (p : Port) : Port :=
  { p with period := some wordPeriod, sent := some (p.word (decide (p.state = .acking))) }

/-- The port after a closing word, with the number sent until then (R47). -/
def Port.afterClosingWord (p : Port) (k : Nat) : Port :=
  { p.afterWord with exchange := { p.exchange with closing := some (k + 1) } }

theorem Port.sendWord_open (h : p.exchange.closing = none) : p.sendWord n = (p.afterWord, []) := by
  simp only [Port.sendWord, h, Port.afterWord]

theorem Port.sendWord_closing {k : Nat} (h : p.exchange.closing = some k) (early : k + 1 < 6) :
    p.sendWord n = (p.afterClosingWord k, []) := by
  simp only [Port.sendWord, h, if_pos early, Port.afterClosingWord, Port.afterWord]

theorem Port.sendWord_sixth (h : p.exchange.closing = some 5) :
    p.sendWord n = (p.afterClosingWord 5).resolve n := by
  simp only [Port.sendWord, h, Port.afterClosingWord, Port.afterWord]
  rfl

/-- The format of a set that no other of the set exceeds is the one chosen (R47). -/
theorem highestFormat_of_greatest {set : BitVec 6} (h : inFormatSet set f = true)
    (greatest : ∀ g, inFormatSet set g = true → g.number ≤ f.number) : highestFormat set = some f := by
  have above (g : Format) (hg : f.number < g.number) : inFormatSet set g = false :=
    Bool.eq_false_iff.mpr fun inside => absurd (greatest g inside) (by omega)
  cases f with
  | a144 => simp [highestFormat, h]
  | a120 => simp [highestFormat, h, above .a144 (by decide)]
  | a96 => simp [highestFormat, h, above .a144 (by decide), above .a120 (by decide)]
  | a72 =>
    simp [highestFormat, h, above .a144 (by decide), above .a120 (by decide), above .a96 (by decide)]
  | a48 =>
    simp [highestFormat, h, above .a144 (by decide), above .a120 (by decide), above .a96 (by decide),
      above .a72 (by decide)]
  | a24 =>
    simp [highestFormat, h, above .a144 (by decide), above .a120 (by decide), above .a96 (by decide),
      above .a72 (by decide), above .a48 (by decide)]

theorem highestFormat_empty : highestFormat 0 = none := by decide

variable {w : OfferWord} (agreed : p.exchange.previous = some w)

include agreed

theorem Port.resolve_locked (h : highestFormat (p.config.permitted &&& w.formats) = some f) :
    p.resolve n =
      ({ p with
          state := .locked, format := some f, streams := some w.streams, exchange := Exchange.cleared
          linkTimer := some linkLimit, period := none, sequences := Vector.replicate 4 none },
        [(.portLocked, [octet n.val, octet f.number, octet w.streams, 1])]) := by
  simp [Port.resolve, agreed, h]

theorem Port.resolve_noCommon (h : highestFormat (p.config.permitted &&& w.formats) = none) :
    p.resolve n =
      ({ p with
          state := .noCommon, exchange := Exchange.cleared, linkTimer := some linkLimit
          sequences := Vector.replicate 4 none },
        [(.portNoCommon, [octet n.val, 1, octet w.formats.toNat])]) := by
  simp [Port.resolve, agreed, h]

end Work

theorem PortState.negotiates_of {x : PortState} (h : x = .listen ∨ x = .offering ∨ x = .acking) :
    x.negotiates = true := by
  rcases h with rfl | rfl | rfl <;> rfl

section Sensing

variable {p : Port} {f : Format} (n : Fin 8)

theorem Port.listenExpiry_senses (allowed : p.config.sensing = true) (h : p.candidate = some f) :
    p.listenExpiry n = p.sense n f := by simp only [Port.listenExpiry, allowed, h]

theorem Port.listenExpiry_listens (h : p.config.sensing = false ∨ p.candidate = none) :
    p.listenExpiry n = (p.enterListen, [(.negotiationTimeout, [octet n.val, p.state.code])]) := by
  unfold Port.listenExpiry
  split
  · rename_i allowed candidate
    rw [allowed, candidate] at h
    rcases h with h | h <;> cases h
  · rfl

end Sensing

end Sys2Proof.Machine

open Sys2Proof Sys2Proof.Machine

/-- Settles O22: a PORT_SET by what its body reads back as, a PORT_RENEGOTIATE by the port's state. -/
theorem portSetAndRenegotiate : Obligations.PortSetAndRenegotiate := by
  intro s r rest n h
  refine ⟨fun c valid kind body => ?_, fun kind body state => ?_, fun kind body state => ?_⟩
  · refine ⟨s.ports[n].configure c,
      exec_request_of h kind body rfl rfl (portSet_done (s.taken rest) n valid), ?_⟩
    cases on : c.enabled with
    | true =>
      rw [Port.configure_enabled _ on]
      exact ⟨rfl, rfl, rfl, rfl, rfl, rfl, rfl,
        fun k => ⟨vector_replicate_get [] k, vector_replicate_get none k⟩,
        fun _ => ⟨rfl, rfl, rfl, rfl⟩, nofun⟩
    | false =>
      rw [Port.configure_not_enabled _ on]
      exact ⟨rfl, rfl, rfl, rfl, rfl, rfl, rfl,
        fun k => ⟨vector_replicate_get [] k, vector_replicate_get none k⟩,
        nofun, fun _ => ⟨rfl, rfl, rfl⟩⟩
  · exact ⟨s.ports[n].enterListen,
      exec_request_of h kind body rfl rfl (portRenegotiate_done (s := s.taken rest) state),
      rfl, rfl, rfl, rfl, rfl, rfl, rfl, rfl,
      fun k => ⟨vector_replicate_get [] k, vector_replicate_get none k⟩, rfl⟩
  · exact exec_request_of h kind body rfl rfl (portRenegotiate_disabled (s := s.taken rest) state)

/-- Settles O24: each state by the equation of `Port.takeWord` for it. -/
theorem offerWordByPortState : Obligations.OfferWordByPortState := by
  intro p w
  refine ⟨fun state link => ?_, fun v k state link held => ⟨fun same early => ?_, fun same third => ?_,
    fun differs => ?_⟩, fun v k state link held closing => ⟨fun same ack => ?_, fun same ack early => ?_,
    fun same ack third => ?_, fun differs => ?_⟩, fun k link state => ?_, fun state => ?_⟩
  · rw [Port.takeWord_listen state, Port.heard_stopped link]
    rfl
  · rw [Port.takeWord_offering state, Port.heard_running link]
    exact Eq.trans (Port.matchWord_same held (OfferWord.same_of_eq same)) (if_pos early)
  · rw [Port.takeWord_offering state, Port.heard_running link]
    exact Eq.trans (Port.matchWord_same held (OfferWord.same_of_eq same)) (if_neg (Nat.not_lt.mpr third))
  · rw [Port.takeWord_offering state, Port.heard_running link]
    exact Port.matchWord_differs held (OfferWord.same_of_ne differs)
  · rw [Port.takeWord_acking state closing, Port.heard_running link]
    exact Eq.trans (Port.ackWord_same held (OfferWord.same_of_eq same)) (if_pos ack)
  · rw [Port.takeWord_acking state closing, Port.heard_running link]
    exact Eq.trans (Port.ackWord_same held (OfferWord.same_of_eq same))
      ((if_neg (by simp [ack])).trans (if_pos early))
  · rw [Port.takeWord_acking state closing, Port.heard_running link]
    exact Eq.trans (Port.ackWord_same held (OfferWord.same_of_eq same))
      ((if_neg (by simp [ack])).trans (if_neg (Nat.not_lt.mpr third)))
  · rw [Port.takeWord_acking state closing, Port.heard_running link]
    exact Port.ackWord_differs held (OfferWord.same_of_ne differs)
  · rw [Port.takeWord_ignored state, Port.heard_running link]
  · rw [Port.takeWord_carrying state]
    rfl

/-- Settles O25: the word sent by `Port.sendWord`'s equations, the resolution by the common set. -/
theorem offerWordPeriodSendsAndResolves : Obligations.OfferWordPeriodSendsAndResolves := by
  refine ⟨fun s n on early => ?_, fun s n p on port due => ?_⟩
  · refine (event_on on).trans ?_
    rw [offerWordPeriod_otherwise (Timer.not_due early)]
  · subst port
    have sends : exec (.offerWordPeriod n) s = .next (s.portEvent n fun p => p.sendWord n).choose :=
      (event_on on).trans (by rw [offerWordPeriod_due due])
    have raises {q : Port} {src : ReportSource} {d : Octets}
        (work : s.ports[n].sendWord n = (q, [(src, d)])) :
        exec (.offerWordPeriod n) s = .next ((s.withPorts (s.ports.set n q)).raise src d).choose := by
      rw [sends, State.portEvent_raising work]
    refine ⟨fun closing => ?_, fun k closing early => ?_, fun w state closing agreed =>
      ⟨fun f inside greatest => ?_, fun apart => ?_⟩⟩
    · rw [sends, State.portEvent_quiet (Port.sendWord_open n closing)]
      rfl
    · rw [sends, State.portEvent_quiet (Port.sendWord_closing n closing early)]
      rfl
    · have work := (Port.sendWord_sixth n closing).trans
        (Port.resolve_locked n agreed (highestFormat_of_greatest inside greatest))
      refine ⟨_, raises work, rfl, rfl, rfl, rfl, rfl, rfl, rfl, rfl, vector_replicate_get none, ?_⟩
      show some (Port.word _ (decide (s.ports[n].state = .acking))) = _
      rw [state]
      rfl
    · have work := (Port.sendWord_sixth n closing).trans
        (Port.resolve_noCommon n agreed ((congrArg highestFormat apart).trans highestFormat_empty))
      exact ⟨_, raises work, rfl, rfl, rfl, rfl, rfl, rfl, rfl⟩

/-- Settles O26: sensing by whether the candidate is permitted, and the returns to LISTEN. -/
theorem portTimersExpire : Obligations.PortTimersExpire := by
  intro s n p on port
  subst port
  refine ⟨fun early => ?_, fun due state => ?_, fun early => ?_, fun due => ?_⟩
  · refine (event_on on).trans ?_
    rw [listenTimerExpiry_otherwise (Timer.not_due early)]
  · have raises {q : Port} {src : ReportSource} {d : Octets}
        (work : s.ports[n].listenExpiry n = (q, [(src, d)])) :
        exec (.listenTimerExpiry n) s = .next ((s.withPorts (s.ports.set n q)).raise src d).choose :=
      (event_on on).trans (by
        rw [listenTimerExpiry_due due (PortState.negotiates_of state), State.portEvent_raising work])
    refine ⟨fun f allowed candidate permitted => ?_, fun f allowed candidate permitted => ?_,
      fun unsensed => ?_⟩
    · have work := (Port.listenExpiry_senses n allowed candidate).trans (if_pos permitted)
      exact ⟨_, raises work, rfl, rfl, rfl, rfl, rfl, rfl, rfl, rfl, rfl, vector_replicate_get none⟩
    · have work := (Port.listenExpiry_senses n allowed candidate).trans
        (if_neg (Bool.eq_false_iff.mp permitted))
      exact ⟨_, raises work, rfl, rfl, rfl, rfl, rfl, rfl⟩
    · exact ⟨_, raises (Port.listenExpiry_listens n unsensed), rfl, rfl, rfl, rfl, rfl, rfl⟩
  · refine (event_on on).trans ?_
    rw [linkTimerExpiry_otherwise (Timer.not_due early)]
  · have raises {q : Port} {src : ReportSource} {d : Octets}
        (work : s.ports[n].loseLink n = (q, [(src, d)])) :
        exec (.linkTimerExpiry n) s = .next ((s.withPorts (s.ports.set n q)).raise src d).choose :=
      (event_on on).trans (by rw [linkTimerExpiry_due due, State.portEvent_raising work])
    exact ⟨_, raises rfl, rfl, rfl, rfl, rfl, rfl, rfl, rfl,
      fun k => ⟨vector_replicate_get [] k, vector_replicate_get none k⟩⟩

end

section
/-! PROOFS. The contributor line: the octets of an offer word and of a contribution frame read back as
that item, and what a port does with the item. -/

namespace Sys2Proof.Machine

/-! ### The items in the octets of a line (R199) -/

theorem lineItems_nil (n : Nat) : lineItems n [] = ([], []) := by cases n <;> rfl

/-- An octet that begins no sync is passed over. -/
theorem lineItems_hunt {o : Octet} (n : Nat) (rest : Octets) (h : o ≠ 0x5C ∧ o ≠ 0xC3) :
    lineItems (n + 1) (o :: rest) = lineItems n rest := by
  have word : (o == 0x5C) = false := beq_eq_false_iff_ne.mpr h.1
  have frame : (o == 0xC3) = false := beq_eq_false_iff_ne.mpr h.2
  simp only [lineItems, word, frame]

/-- Octets that begin no sync hold no item, and nothing of one. -/
theorem lineItems_quiet {n : Nat} {os : Octets} (room : os.length ≤ n)
    (h : ∀ o ∈ os, o ≠ 0x5C ∧ o ≠ 0xC3) : lineItems n os = ([], []) := by
  induction os generalizing n with
  | nil => exact lineItems_nil n
  | cons o rest ih =>
    obtain ⟨m, rfl⟩ : ∃ m, n = m + 1 := ⟨n - 1, by simp at room; omega⟩
    rw [lineItems_hunt m rest (h o (by simp))]
    exact ih (by simpa using room) fun x hx => h x (by simp [hx])

/-- The item at an offer word's sync comes first, and the octets behind it follow. -/
theorem lineItems_word {rest : Octets} {i : LineItem} {used : Nat} (n : Nat)
    (h : readWord (0x5C :: 0x93 :: rest) = .item i used) :
    lineItems (n + 1) (0x5C :: 0x93 :: rest) =
      (i :: (lineItems n ((0x5C :: 0x93 :: rest).drop used)).1,
        (lineItems n ((0x5C :: 0x93 :: rest).drop used)).2) := by
  have word : ((0x5C : Octet) == 0x5C) = true := rfl
  simp only [lineItems, word, h, if_true]

/-- The same at a contribution frame's sync. -/
theorem lineItems_frame {rest : Octets} {i : LineItem} {used : Nat} (n : Nat)
    (h : readFrame (0xC3 :: 0x6A :: rest) = .item i used) :
    lineItems (n + 1) (0xC3 :: 0x6A :: rest) =
      (i :: (lineItems n ((0xC3 :: 0x6A :: rest).drop used)).1,
        (lineItems n ((0xC3 :: 0x6A :: rest).drop used)).2) := by
  have word : ((0xC3 : Octet) == 0x5C) = false := rfl
  have frame : ((0xC3 : Octet) == 0xC3) = true := rfl
  simp only [lineItems, word, frame, h, if_true]

/-- Octets that hold whole items only, met with no item in progress, are taken item by item. -/
theorem lineOctets_items {s : State} {n : Fin 8} {octets : Octets} {items : List LineItem}
    (on : s.ports[n].state ≠ .disabled) (line : s.ports[n].line = [])
    (read : lineItems octets.length octets = (items, [])) :
    lineOctets n octets s = items.foldl (State.takeItem n) s := by
  have same : ({ s.ports[n] with line := [] } : Port) = s.ports[n] := by rw [← line]
  simp only [lineOctets, if_neg on, line, List.nil_append, read, same, State.setPort_self]

theorem lineOctets_disabled {s : State} {n : Fin 8} (octets : Octets)
    (h : s.ports[n].state = .disabled) : lineOctets n octets s = s := if_pos h

/-! ### Offer words (R43, R199) -/

/-- Octets 2 and 3 of an offer word give back its fields. -/
theorem offerFields_octets {w : OfferWord} (least : 1 ≤ w.streams) (greatest : w.streams ≤ 4) :
    offerFields (octet w.formats.toNat) (octet (w.streams + if w.ack then 128 else 0)) = some w := by
  have set_back : (octet w.formats.toNat).setWidth 6 = w.formats := by
    apply BitVec.eq_of_toNat_eq
    simp [octet]
  have value : (octet (w.streams + if w.ack then 128 else 0)).toNat
      = w.streams + if w.ack then 128 else 0 := octet_toNat (by split <;> omega)
  have count : (octet (w.streams + if w.ack then 128 else 0)).toNat % 8 = w.streams := by
    rw [value]
    split <;> omega
  have flag : (octet (w.streams + if w.ack then 128 else 0)).msb = w.ack := by
    rw [BitVec.msb_eq_decide, value]
    cases w.ack
    · exact decide_eq_false (by simp; omega)
    · exact decide_eq_true (by simp)
  simp only [offerFields, count, set_back, flag, if_pos (And.intro least greatest)]

theorem readWord_octets {w : OfferWord} (least : 1 ≤ w.streams) (greatest : w.streams ≤ 4) :
    readWord w.octets = .item (.word w) 5 := by
  have long : ¬ w.octets.length < 5 := by simp [OfferWord.octets, OfferWord.covered]
  have check : check8 (span w.octets 2 2) = w.octets.getD 4 0 := rfl
  have fields : offerFields (w.octets.getD 2 0) (w.octets.getD 3 0) = some w :=
    offerFields_octets least greatest
  simp only [readWord, if_neg long, if_pos check, fields]

theorem lineItems_offerWord {w : OfferWord} (least : 1 ≤ w.streams) (greatest : w.streams ≤ 4) :
    lineItems w.octets.length w.octets = ([.word w], []) := by
  have items := lineItems_word 4 (rest := w.covered ++ [check8 w.covered])
    (readWord_octets least greatest)
  rwa [show List.drop 5 (0x5C :: 0x93 :: (w.covered ++ [check8 w.covered])) = [] from rfl,
    lineItems_nil] at items

/-- The octets of an offer word on a port that is not DISABLED. -/
theorem exec_offerWordReceived {s : State} {n : Fin 8} {w : OfferWord} (on : s.powered = true)
    (least : 1 ≤ w.streams) (greatest : w.streams ≤ 4) (state : s.ports[n].state ≠ .disabled)
    (line : s.ports[n].line = []) :
    exec (.offerWordReceived n w.octets) s
      = .next (s.withPorts (s.ports.set n (s.ports[n].takeWord w))).choose := by
  refine (event_on on).trans ?_
  rw [lineOctets_items state line (lineItems_offerWord least greatest)]
  rfl

/-! ### Contribution frames (R53, R199) -/

/-- A frame within the lengths its format and its ancillary length octet allow. -/
structure ContributionFrame.Sized (f : ContributionFrame) : Prop where
  payload : f.payload.length = f.format.payload
  ancillary : f.ancillary.length ≤ 64

/-- The frame with any two octets in the place of its check. -/
def ContributionFrame.framed (f : ContributionFrame) (high low : Octet) : Octets :=
  [0xC3, 0x6A] ++ f.covered ++ [high, low]

theorem ContributionFrame.octets_framed (f : ContributionFrame) :
    ∃ high low, f.octets = f.framed high low ∧
      (check16 f.covered).toNat = high.toNat * 256 + low.toNat :=
  ⟨_, _, rfl, (field16_be16 (check16 f.covered).isLt []).symm⟩

theorem Format.ofNumber_octet (f : Format) : Format.ofNumber (octet f.number).toNat = some f := by
  cases f <;> rfl

theorem ContributionFrame.covered_length (f : ContributionFrame) :
    f.covered.length = f.payload.length + f.ancillary.length + 4 := by
  simp [ContributionFrame.covered]
  omega

section Framed

variable {f : ContributionFrame} (h : f.Sized) (high low : Octet)

theorem ContributionFrame.framed_length :
    (f.framed high low).length = f.payload.length + f.ancillary.length + 8 := by
  simp [ContributionFrame.framed, f.covered_length]

/-- The octets up to the payload's end, the ancillary length, and the rest. -/
theorem ContributionFrame.framed_eq :
    f.framed high low = ([0xC3, 0x6A, f.stream, f.sequence, octet f.format.number] ++ f.payload)
      ++ (octet f.ancillary.length :: (f.ancillary ++ [high, low])) := by
  simp [ContributionFrame.framed, ContributionFrame.covered]

include h

/-- The ancillary length stands behind the payload. -/
theorem ContributionFrame.framed_ancillary :
    field (f.framed high low) (f.format.payload + 5) = f.ancillary.length := by
  have small := h.ancillary
  have place : f.format.payload + 5
      - ([0xC3, 0x6A, f.stream, f.sequence, octet f.format.number] ++ f.payload).length = 0 := by
    simp [h.payload]
  rw [f.framed_eq, field_behind (by simp [h.payload]), place, field_zero, octet_toNat (by omega)]

/-- A delimited frame passes its check or fails it (R53). -/
theorem readFrame_framed :
    readFrame (f.framed high low) =
      if (check16 f.covered).toNat = high.toNat * 256 + low.toNat then
        .item (.frame f) (f.framed high low).length
      else .item .failedFrame 2 := by
  have length := f.framed_length high low
  have payload := h.payload
  have small := h.ancillary
  have format : Format.ofNumber (field (f.framed high low) 4) = some f.format :=
    f.format.ofNumber_octet
  have covered : span (f.framed high low) 2 (f.format.payload + f.ancillary.length + 4) = f.covered := by
    rw [← payload, ← f.covered_length]
    exact List.take_left
  have check : field16 (f.framed high low) (f.format.payload + f.ancillary.length + 6)
      = high.toNat * 256 + low.toNat := by
    have place : f.format.payload + f.ancillary.length + 6 - ([0xC3, 0x6A] ++ f.covered).length = 0 := by
      simp [f.covered_length, payload]
    rw [ContributionFrame.framed, field16_behind (by simp [f.covered_length, payload]), place]
    rfl
  have audio : span (f.framed high low) 5 f.format.payload = f.payload := by
    rw [f.framed_eq, ← payload]
    simp [span]
  have field : span (f.framed high low) (f.format.payload + 6) f.ancillary.length = f.ancillary := by
    rw [f.framed_eq, span_behind (by simp [payload]), ← payload]
    simp [span]
  unfold readFrame
  rw [if_neg (by omega), format]
  dsimp only
  rw [if_neg (by omega), f.framed_ancillary h, if_neg (by omega), readDelimited, if_neg (by omega),
    covered, check, audio, field, length, payload]
  rfl

theorem lineItems_contribution : lineItems f.octets.length f.octets = ([.frame f], []) := by
  obtain ⟨high, low, framed, passes⟩ := f.octets_framed
  have items := lineItems_frame (rest := f.covered ++ [high, low]) (f.covered ++ [high, low]).length.succ
    ((readFrame_framed h high low).trans (if_pos passes))
  have spent : List.drop (f.framed high low).length (0xC3 :: 0x6A :: (f.covered ++ [high, low])) = [] :=
    List.drop_length
  rw [spent, lineItems_nil] at items
  rw [framed]
  exact items

/-- A frame that fails its check is found, and its octets are searched for the next sync (R53). -/
theorem lineItems_failedFrame (fails : (check16 f.covered).toNat ≠ high.toNat * 256 + low.toNat)
    (quiet : ∀ o ∈ f.covered ++ [high, low], o ≠ 0x5C ∧ o ≠ 0xC3) :
    lineItems (f.framed high low).length (f.framed high low) = ([.failedFrame], []) := by
  have items := lineItems_frame (rest := f.covered ++ [high, low]) (f.covered ++ [high, low]).length.succ
    ((readFrame_framed h high low).trans (if_neg fails))
  have behind : List.drop 2 (0xC3 :: 0x6A :: (f.covered ++ [high, low])) = f.covered ++ [high, low] := rfl
  rw [behind, lineItems_quiet (Nat.le_succ _) quiet] at items
  exact items

end Framed

/-! ### What a port does with a frame (R50, R52 to R56) -/

section Frames

variable {p : Port} {f : Format}

theorem Port.seenFrame_carrying (h : p.state.carries = true) : p.seenFrame f = p.heard := by
  have state : p.heard.state.negotiates = false :=
    Bool.eq_false_iff.mpr fun negotiates =>
      Bool.false_ne_true ((PortState.negotiates_carries negotiates).symm.trans h)
  simp [Port.seenFrame, state]

theorem Port.seenFrame_noCommon (h : p.state = .noCommon) : p.seenFrame f = p.heard := by
  have state : p.heard.state = .noCommon := h
  simp [Port.seenFrame, state, PortState.negotiates]

theorem Port.seenFrame_negotiating (h : p.state.negotiates = true) :
    p.seenFrame f =
      { p with
        linkTimer := p.linkTimer.map fun _ => 250
        candidate := if p.listenTimer.isSome then some f else p.candidate } := by
  have state : p.heard.state.negotiates = true := h
  have timer : p.heard.listenTimer = p.listenTimer := rfl
  simp only [Port.seenFrame, state, Bool.and_true, timer]
  split <;> rfl

@[simp] theorem Port.seenFrame_state (p : Port) (f : Format) : (p.seenFrame f).state = p.state := by
  unfold Port.seenFrame
  dsimp only
  split <;> rfl

/-- The sequence tracked: the record, and a gap counted when it is not the next one (R55). -/
theorem Port.track_eq (p : Port) (k : Fin 4) (x : Octet) :
    p.track k x =
      { p with
        sequences := p.sequences.set k (some x)
        counters :=
          { p.counters with
            sequenceGaps :=
              if p.sequences[k].any fun q => decide (x ≠ q + 1) then satInc p.counters.sequenceGaps
              else p.counters.sequenceGaps } } := by
  unfold Port.track
  dsimp only
  split <;> rfl

/-- The frame at the back of its queue, and the overrun of a full one (R56). -/
theorem Port.enqueue_eq (p : Port) (n : Fin 8) (k : Fin 4) (f : QueuedFrame) :
    p.enqueue n k f =
      ({ p with
          queues := p.queues.set k
            ((if p.queues[k].length < 4 then p.queues[k] else p.queues[k].drop 1) ++ [f])
          counters :=
            { p.counters with
              overruns :=
                if p.queues[k].length < 4 then p.counters.overruns
                else satInc p.counters.overruns } },
        if p.queues[k].length < 4 then [] else [(.streamOverrun, [octet n.val, octet k.val])]) := by
  unfold Port.enqueue
  dsimp only
  split <;> rfl

end Frames

/-- The port after it accepted a frame on stream k (R54 to R56). -/
def Port.afterFrame (p : Port) (k : Fin 4) (f : ContributionFrame) : Port :=
  { p with
    linkTimer := p.linkTimer.map fun _ => 250
    sequences := p.sequences.set k (some f.sequence)
    queues := p.queues.set k
      ((if p.queues[k].length < 4 then p.queues[k] else p.queues[k].drop 1) ++ [f.queued])
    counters :=
      { p.counters with
        overruns :=
          if p.queues[k].length < 4 then p.counters.overruns else satInc p.counters.overruns
        sequenceGaps :=
          if p.sequences[k].any fun q => decide (f.sequence ≠ q + 1) then
            satInc p.counters.sequenceGaps
          else p.counters.sequenceGaps } }

theorem Port.track_enqueue (p : Port) (n : Fin 8) (k : Fin 4) (f : ContributionFrame) :
    (p.heard.track k f.sequence).enqueue n k f.queued =
      (p.afterFrame k f,
        if p.queues[k].length < 4 then [] else [(.streamOverrun, [octet n.val, octet k.val])]) := by
  rw [Port.track_eq, Port.enqueue_eq]
  rfl

section Taken

variable {s : State} {n : Fin 8} {f : ContributionFrame}

/-- Where a port carries no audio the frame is seen and discarded (R54). -/
theorem State.takeFrame_discarded (h : s.ports[n].state.carries = false) :
    s.takeFrame n f = s.setPort n (s.ports[n].seenFrame f.format) := by
  simp only [State.takeFrame, State.setPort_same, Port.seenFrame_state, h]
  rfl

theorem State.takeFrame_mismatch (h : s.ports[n].state.carries = true)
    (other : s.ports[n].heard.acceptedStream f = none) :
    s.takeFrame n f = s.setPort n s.ports[n].heard.mismatch := by
  have state : s.ports[n].heard.state.carries = true := h
  simp only [State.takeFrame, Port.seenFrame_carrying h, State.setPort_same, state, other, if_true,
    State.setPort_setPort]

theorem State.takeFrame_accepted {k : Fin 4} (h : s.ports[n].state.carries = true)
    (accepted : s.ports[n].heard.acceptedStream f = some k) :
    s.takeFrame n f =
      (if s.ports[n].queues[k].length < 4 then s.withPorts (s.ports.set n (s.ports[n].afterFrame k f))
        else
          (s.withPorts (s.ports.set n (s.ports[n].afterFrame k f))).raise .streamOverrun
            [octet n.val, octet k.val]).handOn n k f.ancillary := by
  have state : s.ports[n].heard.state.carries = true := h
  simp only [State.takeFrame, Port.seenFrame_carrying h, State.setPort_same, state, accepted, if_true,
    State.acceptFrame, State.portEvent, Port.track_enqueue, State.setPort_setPort]
  split <;> rfl

/-- Format and stream agree with the port's (R54). -/
theorem Port.acceptedStream_some {p : Port} {k : Fin 4} {c : Nat} (format : p.format = some f.format)
    (streams : p.streams = some c) (inside : k.val < c) (stream : f.stream = octet k.val) :
    p.acceptedStream f = some k := by
  have number : f.stream.toNat = k.val := by rw [stream, octet_fin k (by decide)]
  simp [Port.acceptedStream, format, streams, number, inside]

theorem Port.acceptedStream_none {p : Port} {c : Nat} (streams : p.streams = some c)
    (h : p.format ≠ some f.format ∨ c ≤ f.stream.toNat) : p.acceptedStream f = none := by
  refine if_neg fun both => ?_
  simp only [streams, Option.any_some, Bool.and_eq_true, decide_eq_true_eq] at both
  rcases h with h | h
  · exact h both.2
  · omega

end Taken

theorem PortState.carries_ne_disabled {x : PortState} (h : x.carries = true) : x ≠ .disabled := by
  rintro rfl
  cases h

end Sys2Proof.Machine

open Sys2Proof Sys2Proof.Machine

/-- Settles O23: the word's octets read back as the word. -/
theorem offerWordIsTaken : Obligations.OfferWordIsTaken := by
  intro s n w on least greatest
  refine ⟨fun state line => exec_offerWordReceived on least greatest state line, fun off => ?_⟩
  refine (event_on on).trans ?_
  rw [lineOctets_disabled _ off]

/-- Settles O28: the word is read back, and taken as LISTEN takes it. -/
theorem listenTakesTheFirstWord : Obligations.ListenTakesTheFirstWord := by
  intro s n w on least greatest state link line
  rw [exec_offerWordReceived on least greatest (by rw [state]; decide) line,
    Port.takeWord_listen state, Port.heard_stopped link]
  rfl

/-- Settles O27: the frame's octets read back as the frame, and then each port state by what
`State.takeFrame` does in it. -/
theorem contributionFramesByPortState : Obligations.ContributionFramesByPortState := by
  intro s n p f on port line payload ancillary
  subst port
  have sized : f.Sized := ⟨payload, ancillary⟩
  have takes (state : s.ports[n].state ≠ .disabled) :
      exec (.contributionFrame n f.octets) s = .next (s.takeFrame n f).choose := by
    refine (event_on on).trans ?_
    rw [lineOctets_items state line (lineItems_contribution sized)]
    rfl
  refine ⟨fun k c state format streams inside stream => ?_, fun c state streams _ other => ?_,
    fun state => ?_, fun state => ?_, fun state => ?_, fun high low state fails quiet => ?_⟩
  · have accepted : s.ports[n].heard.acceptedStream f = some k :=
      Port.acceptedStream_some format streams inside stream
    refine ⟨s.ports[n].afterFrame k f, ?_, ?_, fun j other => ⟨?_, ?_⟩, ?_, rfl, ?_, rfl, rfl, rfl, rfl,
      rfl, line⟩
    · rw [takes (PortState.carries_ne_disabled state), State.takeFrame_accepted state accepted]
    · exact (set_get _ k k _).trans (if_pos rfl)
    · exact (set_get _ k j _).trans (if_neg other)
    · exact (set_get _ k j _).trans (if_neg other)
    · exact (set_get _ k k _).trans (if_pos rfl)
    · cases last : s.ports[n].sequences[k] with
      | none => simp only [Port.afterFrame, last, Option.any_none, Bool.false_eq_true, if_false]
      | some x => simp only [Port.afterFrame, last, Option.any_some, decide_eq_true_eq, ne_eq, ite_not]
  · have rejected : s.ports[n].heard.acceptedStream f = none := Port.acceptedStream_none streams other
    rw [takes (PortState.carries_ne_disabled state), State.takeFrame_mismatch state rejected]
    rfl
  · have negotiates := PortState.negotiates_of state
    rw [takes (by rcases state with state | state | state <;> rw [state] <;> decide),
      State.takeFrame_discarded (PortState.negotiates_carries negotiates),
      Port.seenFrame_negotiating negotiates]
    rfl
  · rw [takes (by rw [state]; decide), State.takeFrame_discarded (by rw [state]; rfl),
      Port.seenFrame_noCommon state]
    rfl
  · refine (event_on on).trans ?_
    rw [lineOctets_disabled _ state]
  · refine (event_on on).trans ?_
    show Host.Outcome.next (lineOctets n (f.framed high low) s).choose = _
    rw [lineOctets_items (PortState.carries_ne_disabled state) line
      (lineItems_failedFrame sized high low fails quiet)]
    simp only [List.foldl_cons, List.foldl_nil, State.takeItem, Port.failedFrame, state, if_true]
    rfl

end

section
/-! PROOFS. What the assembler passes without a take, and the take of the stream it reaches. -/

namespace Sys2Proof.Machine

/-! ### Raising commutes with what does not look at the report table -/

/-- An operation that commutes with each event raised commutes with all of them. -/
theorem State.raiseAll_comm {f : State → State} {e : Events} {s : State}
    (h : ∀ x ∈ e, ∀ u : State, f (u.raise x.1 x.2) = (f u).raise x.1 x.2) :
    f (s.raiseAll e) = (f s).raiseAll e := by
  induction e generalizing s with
  | nil => rfl
  | cons x rest ih =>
    obtain ⟨first, others⟩ := List.forall_mem_cons.mp h
    show f ((s.raise x.1 x.2).raiseAll rest) = ((f s).raise x.1 x.2).raiseAll rest
    rw [ih others, first s]

theorem State.raiseAll_append (s : State) (e d : Events) :
    s.raiseAll (e ++ d) = (s.raiseAll e).raiseAll d := by
  induction e generalizing s with
  | nil => rfl
  | cons x rest ih => exact ih (s.raise x.1 x.2)

theorem State.raiseAll_withOutput (s : State) (e : Events) (o : Output) :
    (s.raiseAll e).withOutput o = (s.withOutput o).raiseAll e :=
  State.raiseAll_comm (f := (·.withOutput o)) fun _ _ _ => rfl

theorem updateAt_comm {α : Type} {n : Nat} (v : Vector α n) {i j : Fin n} (h : i ≠ j) (f g : α → α) :
    updateAt (updateAt v i f) j g = updateAt (updateAt v j g) i f := by
  have apart : i.val ≠ j.val := fun same => h (Fin.ext same)
  apply Vector.ext
  intro k hk
  simp only [updateAt_getElem]
  by_cases hi : i.val = k
  · have hj : j.val ≠ k := fun same => apart (hi.trans same.symm)
    simp only [if_pos hi, if_neg hj]
  · simp only [if_neg hi]

/-- Events of two sources leave the same records in either order. -/
theorem State.raise_comm (s : State) {a b : ReportSource} (h : a.index ≠ b.index) (c d : Octets) :
    (s.raise a c).raise b d = (s.raise b d).raise a c := by
  simp only [State.raise, Control.raise, State.withControl_control]
  rw [updateAt_comm _ h]
  rfl

/-! ### The assembling buffer replaced (R65) -/

theorem FrameBuffer.work_replaceWork (b : FrameBuffer) (f : CarriageFrame) (p : Progress) :
    (b.replaceWork (.assembling f p)).work = b.work.map fun _ => (f, p) := by cases b <;> rfl

theorem FrameBuffer.replaceWork_replaceWork (b c : FrameBuffer) (f : CarriageFrame) (p : Progress) :
    (b.replaceWork (.assembling f p)).replaceWork c = b.replaceWork c := by cases b <;> rfl

theorem Output.work_setWork {o : Output} {w : CarriageFrame × Progress} (h : o.work = some w)
    (f : CarriageFrame) (p : Progress) : (o.setWork (.assembling f p)).work = some (f, p) := by
  unfold Output.work Output.setWork at *
  rw [FrameBuffer.work_replaceWork, FrameBuffer.work_replaceWork]
  cases ha : o.bufferA.work with
  | some w => rfl
  | none =>
    rw [ha, Option.none_or] at h
    rw [h]
    rfl

theorem Output.setWork_setWork (o : Output) (f : CarriageFrame) (p : Progress) (b : FrameBuffer) :
    (o.setWork (.assembling f p)).setWork b = o.setWork b := by
  simp only [Output.setWork, FrameBuffer.replaceWork_replaceWork]

/-! ### The answers kept (R75) -/

theorem Progress.answer_none {p : Progress} {x : Stream} (h : ∀ y ∈ p.answers, y.1 ≠ x) :
    p.answer x = none := by
  simp only [Progress.answer, Option.map_eq_none_iff, List.find?_eq_none]
  simpa using h

theorem Assembly.not_answered {a : Assembly} {x : Stream} (h : a.progress.answer x = none) :
    ∀ y ∈ a.progress.answers, y.1 ≠ x := by
  simp only [Progress.answer, Option.map_eq_none_iff, List.find?_eq_none] at h
  simpa using h

theorem Assembly.kept_of_answer {a : Assembly} {x : Stream} {answer : Option QueuedFrame}
    (h : a.progress.answer x = some answer) : a.Kept x answer := by
  obtain ⟨⟨y, _⟩, found, rfl⟩ := Option.map_eq_some_iff.mp h
  obtain ⟨same, pre, post, split, before⟩ := List.find?_eq_some_iff_append.mp found
  obtain rfl : y = x := by simpa using same
  exact ⟨pre, post, split, fun z hz => by simpa using before z hz⟩

/-! ### A run offered an answer (R75, R76) -/

section Offer

variable (a : Assembly) {r : FrameRun} {f : QueuedFrame}

theorem Assembly.audioPassed_nil :
    a.audioPassed [] = { a with progress := { a.progress with audioDone := true } } := by
  simp [Assembly.audioPassed]

theorem Assembly.offer_none (r : FrameRun) : a.offer r none = a.audioPassed [] := rfl

theorem Assembly.offer_fits (h : 10 * f.format.number ≤ r.run.length - r.run.share) :
    a.offer r (some f) = a.audioPassed
      ((List.range (10 * f.format.number)).map fun i =>
        (r.run.start + i, .audio (span f.payload (36 * i) 36))) := if_pos h

theorem Assembly.offer_tooLarge (h : r.run.length - r.run.share < 10 * f.format.number) :
    a.offer r (some f) =
      { a.audioPassed [] with
        faults := a.faults.set r.service (satInc a.faults[r.service])
        events := a.events ++
          [(.fitFault, [octet r.service.val, octet f.format.number]
            ++ be16 (r.run.length - r.run.share))] } := if_neg (Nat.not_le.mpr h)

/-- An offer adds to the events at their end, and looks at none of them. -/
theorem Assembly.offer_events (r : FrameRun) (answer : Option QueuedFrame) :
    a.offer r answer =
      { Assembly.offer { a with events := [] } r answer with
        events := a.events ++ (Assembly.offer { a with events := [] } r answer).events } := by
  cases answer with
  | none => simp [Assembly.offer_none, Assembly.audioPassed]
  | some f =>
    by_cases fits : 10 * f.format.number ≤ r.run.length - r.run.share
    · rw [Assembly.offer_fits _ fits, Assembly.offer_fits _ fits]
      simp [Assembly.audioPassed]
    · have large := Nat.lt_of_not_le fits
      rw [Assembly.offer_tooLarge _ large, Assembly.offer_tooLarge _ large]
      simp [Assembly.audioPassed]

end Offer

/-! ### Passing (R73 to R76; log 21) -/

/-- Every event of a list is a fit fault. -/
def OnlyFitFaults (e : Events) : Prop := ∀ x ∈ e, x.1 = .fitFault

/-- What is left to pass: an audio portion and a data share for each run. -/
def Assembly.portionsLeft (a : Assembly) : Nat :=
  2 * a.progress.runs.length - if a.progress.audioDone then 1 else 0

/-- One portion passed. -/
structure Assembly.PassesOne (a b : Assembly) : Prop where
  pass : ∀ n, a.pass (n + 1) = b.pass n
  less : b.portionsLeft < a.portionsLeft
  passes : ∀ c, Assembly.Passes b c → Assembly.Passes a c
  events : OnlyFitFaults a.events → OnlyFitFaults b.events

/-- A waiting assembly passes nothing. -/
theorem Assembly.Waits.pass {a : Assembly} (h : a.Waits) (n : Nat) : a.pass n = a := by
  cases n with
  | zero => rfl
  | succ n =>
    rcases h with none_left | ⟨r, more, runs, ⟨done, left⟩ | ⟨open_portion, x, source, fresh⟩⟩
    · simp only [Assembly.pass, none_left]
    · simp only [Assembly.pass, runs, done, if_true, if_neg (Nat.not_le.mpr left)]
    · simp [Assembly.pass, runs, open_portion, source, Progress.answer_none fresh]

section OnePortion

variable {a : Assembly} {r : FrameRun} {more : List FrameRun}

/-- With the audio portion done, its run has only a data share left. -/
theorem Assembly.portionsLeft_audioPassed (runs : a.progress.runs = r :: more)
    (open_portion : a.progress.audioDone = false) (cells : List (Nat × Cell)) :
    (a.audioPassed cells).portionsLeft < a.portionsLeft := by
  simp only [Assembly.portionsLeft, Assembly.audioPassed, runs, open_portion, List.length_cons]
  simp

theorem Assembly.passesOne_finished (runs : a.progress.runs = r :: more)
    (done : a.progress.audioDone = true) (placed : r.run.share ≤ a.progress.cellsDone) :
    a.PassesOne a.nextRun where
  pass n := by simp only [Assembly.pass, runs, done, if_true, if_pos placed]
  less := by
    simp only [Assembly.portionsLeft, Assembly.nextRun, runs, done, List.tail_cons, List.length_cons]
    simp
    omega
  passes c h := by
    refine .finished a c r more runs done placed ?_
    simpa only [Assembly.nextRun, runs, List.tail_cons] using h
  events h := h

theorem Assembly.passesOne_noSource (runs : a.progress.runs = r :: more)
    (open_portion : a.progress.audioDone = false) (source : r.source = none) :
    a.PassesOne (a.audioPassed []) where
  pass n := by
    simp only [Assembly.pass, runs, open_portion, source, Bool.false_eq_true, if_false]
    rfl
  less := Assembly.portionsLeft_audioPassed runs open_portion []
  passes c h := .noSource a c r more runs open_portion source h
  events h := h

/-- An answer kept serves the run: none, a frame that fits, or one that does not. -/
theorem Assembly.passesOne_kept {x : Stream} {answer : Option QueuedFrame}
    (runs : a.progress.runs = r :: more) (open_portion : a.progress.audioDone = false)
    (source : r.source = some x) (answered : a.progress.answer x = some answer) :
    a.PassesOne (a.offer r answer) := by
  have pass (n : Nat) : a.pass (n + 1) = (a.offer r answer).pass n := by
    simp only [Assembly.pass, runs, open_portion, source, answered, Bool.false_eq_true, if_false]
  have kept := Assembly.kept_of_answer answered
  have less := Assembly.portionsLeft_audioPassed runs open_portion
  cases answer with
  | none => exact ⟨pass, less [], fun c h => .keptNone a c r more x runs open_portion source kept h, id⟩
  | some f =>
    by_cases fits : 10 * f.format.number ≤ r.run.length - r.run.share
    · rw [Assembly.offer_fits a fits] at pass ⊢
      exact ⟨pass, less _, fun c h => .keptFits a c r more x f runs open_portion source kept fits h, id⟩
    · have large := Nat.lt_of_not_le fits
      rw [Assembly.offer_tooLarge a large] at pass ⊢
      refine ⟨pass, less [],
        fun c h => .keptTooLarge a c r more x f runs open_portion source kept large h, fun h => ?_⟩
      exact List.forall_mem_append.mpr ⟨h, List.forall_mem_singleton.mpr rfl⟩

end OnePortion

/-- An assembly waits, or one portion is passed. -/
theorem Assembly.waits_or_passesOne (a : Assembly) : a.Waits ∨ ∃ b, a.PassesOne b := by
  cases runs : a.progress.runs with
  | nil => exact .inl (.inl runs)
  | cons r more =>
    cases portion : a.progress.audioDone with
    | true =>
      by_cases placed : r.run.share ≤ a.progress.cellsDone
      · exact .inr ⟨_, Assembly.passesOne_finished runs portion placed⟩
      · exact .inl (.inr ⟨r, more, runs, .inl ⟨portion, Nat.lt_of_not_le placed⟩⟩)
    | false =>
      cases source : r.source with
      | none => exact .inr ⟨_, Assembly.passesOne_noSource runs portion source⟩
      | some x =>
        cases answered : a.progress.answer x with
        | some answer => exact .inr ⟨_, Assembly.passesOne_kept runs portion source answered⟩
        | none =>
          exact .inl (.inr ⟨r, more, runs, .inr ⟨portion, x, source, Assembly.not_answered answered⟩⟩)

/-- As many steps as there are portions left bring an assembly to where it waits. -/
theorem Assembly.pass_reaches {a : Assembly} {n : Nat} (room : a.portionsLeft ≤ n)
    (faults : OnlyFitFaults a.events) :
    (a.pass n).Waits ∧ Assembly.Passes a (a.pass n) ∧ OnlyFitFaults (a.pass n).events := by
  induction n generalizing a with
  | zero =>
    rcases a.waits_or_passesOne with waits | ⟨b, one⟩
    · exact ⟨waits, .nothing a, faults⟩
    · have := one.less
      omega
  | succ n ih =>
    rcases a.waits_or_passesOne with waits | ⟨b, one⟩
    · rw [waits.pass]
      exact ⟨waits, .nothing a, faults⟩
    · have less := one.less
      obtain ⟨waits, passes, events⟩ := ih (a := b) (by omega) (one.events faults)
      rw [one.pass]
      exact ⟨waits, one.passes _ passes, events⟩

/-! ### The assembly a part has reached -/

section Reached

variable {s : State} {f : CarriageFrame} {p : Progress} {a : Assembly}

/-- The assembly in progress before anything is passed. -/
def State.assemblyOf (s : State) (f : CarriageFrame) (p : Progress) : Assembly :=
  { frame := f, progress := p, faults := s.output.fitFaults, events := [] }

theorem State.reached_eq (h : s.output.work = some (f, p)) :
    s.reached = some ((s.assemblyOf f p).pass (2 * p.runs.length)) := by
  simp only [State.reached, h, Option.map_some]
  rfl

/-- What the assembly reached is, if there is one. -/
theorem State.reached_spec (h : s.output.work = some (f, p)) :
    ∃ a, s.reached = some a ∧ a.Waits ∧ Assembly.Passes (s.assemblyOf f p) a ∧
      OnlyFitFaults a.events := by
  refine ⟨_, s.reached_eq h, Assembly.pass_reaches ?_ (List.forall_mem_nil _)⟩
  exact Nat.sub_le _ _

theorem State.reached_of_waits (h : s.output.work = some (f, p)) (waits : (s.assemblyOf f p).Waits) :
    s.reached = some (s.assemblyOf f p) := by rw [s.reached_eq h, waits.pass]

theorem State.work_of_reached (h : s.reached = some a) : ∃ f p, s.output.work = some (f, p) := by
  obtain ⟨⟨f, p⟩, work, _⟩ := Option.map_eq_some_iff.mp h
  exact ⟨f, p, work⟩

theorem State.putBack_eq (s : State) (a : Assembly) : s.putBack a = s.passed a := rfl

@[simp] theorem State.passed_output (s : State) (a : Assembly) :
    (s.passed a).output =
      { s.output.setWork (.assembling a.frame a.progress) with fitFaults := a.faults } :=
  State.raiseAll_output _ _

@[simp] theorem State.passed_powered (s : State) (a : Assembly) : (s.passed a).powered = s.powered :=
  State.raiseAll_powered _ _

theorem State.passed_work (h : s.output.work = some (f, p)) (a : Assembly) :
    (s.passed a).output.work = some (a.frame, a.progress) := by
  rw [State.passed_output]
  exact Output.work_setWork h a.frame a.progress

/-- An assembly put back where it waits is found there again, its events raised. -/
theorem State.passed_reached (h : s.output.work = some (f, p)) (waits : a.Waits) :
    (s.passed a).reached = some { a with events := [] } := by
  have again : (s.passed a).assemblyOf a.frame a.progress = { a with events := [] } := by
    rw [State.assemblyOf, State.passed_output]
  rw [State.reached_of_waits (s.passed_work h a) (by rw [again]; exact waits), again]

/-- Two assemblies put back one after the other: the second stands, with the events of both. -/
theorem State.passed_passed (s : State) (a b : Assembly) :
    (s.passed a).passed b = s.passed { b with events := a.events ++ b.events } := by
  have outputs : ({ (s.passed a).output.setWork (.assembling b.frame b.progress) with
      fitFaults := b.faults } : Output)
      = { s.output.setWork (.assembling b.frame b.progress) with fitFaults := b.faults } := by
    have buffers := Output.setWork_setWork s.output a.frame a.progress (.assembling b.frame b.progress)
    rw [← buffers, State.passed_output]
    rfl
  simp only [State.passed] at outputs ⊢
  rw [outputs, State.raiseAll_withOutput, ← State.raiseAll_append]
  rfl

end Reached

/-! ### The take of a stream (R57, R75) -/

section Takes

variable {s : State} {x : Stream}

theorem State.takeStream_front {y : QueuedFrame} {ys : List QueuedFrame}
    (h : s.ports[x.port].queues[x.number] = y :: ys) :
    s.takeStream x =
      (s.setPort x.port
        { s.ports[x.port] with queues := s.ports[x.port].queues.set x.number ys }, some y) := by
  simp only [State.takeStream, h]

theorem State.takeStream_empty (h : s.ports[x.port].queues[x.number] = []) :
    s.takeStream x =
      ((s.setPort x.port
          { s.ports[x.port] with
            counters :=
              { s.ports[x.port].counters with
                underruns := satInc s.ports[x.port].counters.underruns } }).raise
        .streamUnderrun [octet x.port.val, octet x.number.val], none) := by
  simp only [State.takeStream, h]

/-- A take looks at the ports only. -/
theorem State.takeStream_withOutput (s : State) (x : Stream) (o : Output) :
    (s.withOutput o).takeStream x = ((s.takeStream x).1.withOutput o, (s.takeStream x).2) := by
  cases queue : s.ports[x.port].queues[x.number] with
  | nil => rw [State.takeStream_empty queue, State.takeStream_empty (by exact queue)]; rfl
  | cons y ys => rw [State.takeStream_front queue, State.takeStream_front (by exact queue)]; rfl

theorem State.takeStream_output (s : State) (x : Stream) : (s.takeStream x).1.output = s.output := by
  cases queue : s.ports[x.port].queues[x.number] with
  | nil => rw [State.takeStream_empty queue]; rfl
  | cons y ys => rw [State.takeStream_front queue]; rfl

/-- Fit faults raised before a take or after it leave the same records, and the same answer. -/
theorem State.takeStream_raise (s : State) (x : Stream) (d : Octets) :
    (s.raise .fitFault d).takeStream x = ((s.takeStream x).1.raise .fitFault d, (s.takeStream x).2) := by
  cases queue : s.ports[x.port].queues[x.number] with
  | nil =>
    rw [State.takeStream_empty queue, State.takeStream_empty (by exact queue),
      State.raise_comm _ (by decide)]
    rfl
  | cons y ys => rw [State.takeStream_front queue, State.takeStream_front (by exact queue)]; rfl

theorem State.takeStream_raiseAll {e : Events} (h : OnlyFitFaults e) (s : State) (x : Stream) :
    (s.raiseAll e).takeStream x = ((s.takeStream x).1.raiseAll e, (s.takeStream x).2) := by
  induction e generalizing s with
  | nil => rfl
  | cons first rest ih =>
    obtain ⟨src, d⟩ := first
    obtain ⟨rfl, others⟩ := List.forall_mem_cons.mp h
    rw [State.raiseAll_cons, ih others, State.takeStream_raise, State.raiseAll_cons]

/-- What was passed before a take could be passed after it. -/
theorem State.takeStream_passed {a : Assembly} (h : OnlyFitFaults a.events) (s : State) (x : Stream) :
    (s.passed a).takeStream x = ((s.takeStream x).1.passed a, (s.takeStream x).2) := by
  rw [State.passed, State.takeStream_raiseAll h, State.takeStream_withOutput, State.passed,
    State.takeStream_output]

/-- STREAM_TAKE where the run reached has a stream to take (R75). -/
theorem streamTake_takes {a : Assembly} {r : FrameRun} {more : List FrameRun} (h : s.reached = some a)
    (runs : a.progress.runs = r :: more) (open_portion : a.progress.audioDone = false)
    (source : r.source = some x) :
    streamTake s =
      (s.takeStream x).1.passed ((a.keep x (s.takeStream x).2).offer r (s.takeStream x).2) := by
  simp only [streamTake, h, runs, open_portion, source, State.putBack_eq]

end Takes

end Sys2Proof.Machine

open Sys2Proof Sys2Proof.Machine

/-- Settles O31: the take by the queue and the fit check, what is passed by `Assembly.pass_reaches`, and
that it may be passed first by `State.takeStream_passed`. -/
theorem streamTakePlacesTheAudio : Obligations.StreamTakePlacesTheAudio := by
  refine ⟨fun s f p q more x on work runs portion source fresh => ?_, fun s f p work => ?_,
    fun s a q more on reached runs portion => ?_⟩
  · have waits : (s.assemblyOf f p).Waits := .inr ⟨q, more, runs, .inr ⟨portion, x, source, fresh⟩⟩
    have takes := streamTake_takes (s.reached_of_waits work waits) runs portion source
    refine ⟨fun y ys queue fits => ?_, fun y ys queue large => ?_, fun queue => ?_⟩
    · refine (event_on on).trans ?_
      rw [takes, State.takeStream_front queue, Assembly.offer_fits _ fits]
      rfl
    · refine (event_on on).trans ?_
      rw [takes, State.takeStream_front queue, Assembly.offer_tooLarge _ large,
        Assembly.audioPassed_nil]
      rfl
    · refine (event_on on).trans ?_
      rw [takes, State.takeStream_empty queue, Assembly.offer_none, Assembly.audioPassed_nil]
      rfl
  · obtain ⟨a, reached, waits, passes, _⟩ := s.reached_spec work
    exact ⟨a, reached, waits, passes, s.passed_work work a⟩
  · obtain ⟨f, p, work⟩ := State.work_of_reached reached
    obtain ⟨b, reached_b, waits, _, faults⟩ := s.reached_spec work
    obtain rfl : a = b := Option.some.inj (reached.symm.trans reached_b)
    obtain ⟨x, source⟩ : ∃ x, q.source = some x := by
      rcases waits with none_left | ⟨r, rest, first, ⟨done, _⟩ | ⟨_, x, source, _⟩⟩
      · rw [runs] at none_left
        cases none_left
      · rw [portion] at done
        cases done
      · obtain ⟨rfl, _⟩ := List.cons.inj (runs.symm.trans first)
        exact ⟨x, source⟩
    have later := streamTake_takes (s.passed_reached work waits) runs portion source
    show event streamTake s = event streamTake (s.passed a)
    rw [event_on on, event_on (by rw [State.passed_powered, on]),
      streamTake_takes reached runs portion source, later, State.takeStream_passed faults,
      State.passed_passed, Assembly.offer_events]
    rfl

end

section
/-! PROOFS. One millisecond of the part (log 3). -/

namespace Sys2Proof.Machine

/-- A timer's expiry, by the time left. -/
theorem Timer.expiry_eq (t : Timer) (c : Instr) : t.expiry c = if t = some 0 then [c] else [] := by
  simp [Timer.expiry, Timer.due]

/-- The command that ends an operation of the template store. -/
def OperationKind.ending : OperationKind → Instr
  | .erase => .eraseEnd
  | .write => .writeEnd

theorem TemplateStore.expiries_none {t : TemplateStore} (h : t.operation = none) : t.expiries = [] := by
  simp [TemplateStore.expiries, h]

theorem TemplateStore.expiries_some {t : TemplateStore} {o : Operation} (h : t.operation = some o) :
    t.expiries = if o.timer = 0 then [o.kind.ending] else [] := by
  obtain ⟨kind, slot, timer⟩ := o
  unfold TemplateStore.expiries
  rw [h]
  cases timer with
  | zero => cases kind <;> rfl
  | succ n => cases kind <;> rfl

theorem Alert.due_eq (a : Alert) :
    a.due = decide (a.state = .inForce ∧ a.content.duration ≠ 0 ∧ a.remaining = 0) :=
  Bool.eq_iff_iff.mpr ((Alert.due_iff a).trans decide_eq_true_iff.symm)

theorem AlertUnit.expiries_eq (u : AlertUnit) :
    u.expiries =
      (u.alerts.filter fun a =>
        decide (a.state = .inForce ∧ a.content.duration ≠ 0 ∧ a.remaining = 0)).map
          fun a => .alertTimerExpiry a.number := by
  rw [AlertUnit.expiries, funext Alert.due_eq]

/-- The remaining time runs for an IN_FORCE alert with a duration (R173). -/
theorem Alert.tick_eq (a : Alert) :
    a.tick =
      if a.state = .inForce ∧ a.content.duration ≠ 0 then { a with remaining := a.remaining - 1 }
      else a := by
  simp only [Alert.tick, Alert.timed_iff]

end Sys2Proof.Machine

open Sys2Proof Sys2Proof.Machine

/-- Settles O3: the countdown field by field, and each block's expiries by its own equation. -/
theorem idleStepIsOneMillisecond : Obligations.IdleStepIsOneMillisecond := by
  intro s idle
  refine ⟨fun off => step_unpowered idle off, fun on => ⟨s.tick, step_millisecond idle on, rfl,
    fun n => mapTable_get _ _ n, fun n => mapTable_get _ _ n, rfl, ?_, rfl, on, rfl, rfl, rfl, rfl, rfl,
    rfl, ?_⟩⟩
  · show s.alerts.tick = _
    rw [AlertUnit.tick, funext Alert.tick_eq]
  · show s.pending ++ s.countDown.expiries = _
    simp only [idle, List.nil_append, State.expiries, Port.expiries, Timer.expiry_eq,
      AlertUnit.expiries_eq]
    cases operation : s.countDown.templates.operation with
    | none =>
      rw [TemplateStore.expiries_none operation, show s.tick.templates.operation = none from operation]
      rfl
    | some o =>
      rw [TemplateStore.expiries_some operation, show s.tick.templates.operation = some o from operation]
      obtain ⟨kind, slot, timer⟩ := o
      cases kind <;> rfl

end

section
/-! PROOFS. The request queue, the replies and the two buffers as one part of the state, and the
operations that leave it alone. -/

namespace Sys2Proof.Machine

/-! ### The queues and the buffers as one part of the state -/

/-- What the law of the request queue and the replies looks at (R186, R189). -/
structure Queues where
  requests : List Request
  replies : List Reply
  restarting : Option Octet

def Control.queues (c : Control) : Queues :=
  { requests := c.requests, replies := c.replies, restarting := c.restarting }

/-- What the law of the two buffers looks at (R65, R70). -/
structure Buffers where
  state : OutputState
  bufferA : FrameBuffer
  bufferB : FrameBuffer
  link : LinkCondition
  stallTimer : Timer

def Output.buffers (o : Output) : Buffers :=
  { state := o.state, bufferA := o.bufferA, bufferB := o.bufferB, link := o.link
    stallTimer := o.stallTimer }

/-- What the two laws look at together; everything else a command does leaves it alone. -/
structure LinkView where
  queues : Queues
  buffers : Buffers

def State.linkView (s : State) : LinkView := { queues := s.control.queues, buffers := s.output.buffers }

section Frame

variable (s : State)

@[simp] theorem State.withServices_linkView (x : ServiceTable) :
    (s.withServices x).linkView = s.linkView := rfl
@[simp] theorem State.withPlan_linkView (x : Plan) : (s.withPlan x).linkView = s.linkView := rfl
@[simp] theorem State.withPorts_linkView (x : Vector Port 8) :
    (s.withPorts x).linkView = s.linkView := rfl
@[simp] theorem State.withCues_linkView (x : Vector CueFilter 4) :
    (s.withCues x).linkView = s.linkView := rfl
@[simp] theorem State.withLines_linkView (x : Vector TriggerLine 4) :
    (s.withLines x).linkView = s.linkView := rfl
@[simp] theorem State.withTemplates_linkView (x : TemplateStore) :
    (s.withTemplates x).linkView = s.linkView := rfl
@[simp] theorem State.withAlerts_linkView (x : AlertUnit) :
    (s.withAlerts x).linkView = s.linkView := rfl
@[simp] theorem State.withStore_linkView (x : ObjectStore) :
    (s.withStore x).linkView = s.linkView := rfl
@[simp] theorem State.withCarousels_linkView (x : Vector Carousel 32) :
    (s.withCarousels x).linkView = s.linkView := rfl
@[simp] theorem State.withDirectory_linkView (x : Directory) :
    (s.withDirectory x).linkView = s.linkView := rfl
@[simp] theorem State.withOutput_linkView (x : Output) :
    (s.withOutput x).linkView = { s.linkView with buffers := x.buffers } := rfl
@[simp] theorem State.withControl_linkView (x : Control) :
    (s.withControl x).linkView = { s.linkView with queues := x.queues } := rfl
@[simp] theorem State.raise_linkView (src : ReportSource) (d : Octets) :
    (s.raise src d).linkView = s.linkView := rfl

@[simp] theorem State.raiseAll_linkView (e : Events) : (s.raiseAll e).linkView = s.linkView := by
  induction e generalizing s with
  | nil => rfl
  | cons x rest ih => exact ih (s.raise x.1 x.2)

end Frame

/-! ### The operations that leave the queues and the buffers alone -/

section Kept

variable (s : State)

@[simp] theorem State.setLane_linkView (i : Fin 32) (k : ObjectKind) (l : Lane) :
    (s.setLane i k l).linkView = s.linkView := rfl

@[simp] theorem State.removeEntry_linkView (i : Fin 32) (k : ObjectKind) (e : CarouselEntry) :
    (s.removeEntry i k e).linkView = s.linkView := rfl

@[simp] theorem State.removeId_linkView (id : Nat) : (s.removeId id).linkView = s.linkView := by
  unfold State.removeId
  split <;> rfl

@[simp] theorem State.clearLane_linkView (i : Fin 32) (k : ObjectKind) :
    (s.clearLane i k).linkView = s.linkView :=
  foldl_field State.linkView (fun u e => u.removeEntry_linkView i k e) _ s

@[simp] theorem State.carouselCell_linkView (i : Fin 32) (first : Bool) :
    (s.carouselCell i first).1.linkView = s.linkView := by
  unfold State.carouselCell
  split
  · rfl
  · exact State.raiseAll_linkView _ _

@[simp] theorem State.releaseAlert_linkView (origin : Origin) :
    (s.releaseAlert origin).linkView = s.linkView := by
  unfold State.releaseAlert
  repeat' split
  all_goals rfl

@[simp] theorem State.admitFor_linkView (origin : Origin) (c : AlertContent) :
    (s.admitFor origin c).linkView = s.linkView := by
  unfold State.admitFor
  dsimp only
  split <;> simp

@[simp] theorem State.sourceRequest_linkView (origin : Origin) (c : SourceContent) :
    (s.sourceRequest origin c).linkView = s.linkView := by
  unfold State.sourceRequest State.sourceAdmission
  dsimp only
  repeat' split
  all_goals simp

@[simp] theorem State.trigger_linkView (n : Fin 4) (edge : Edge) (mode : LineMode) :
    (s.trigger n edge mode).linkView = s.linkView := State.sourceRequest_linkView _ _ _

@[simp] theorem State.acceptedEdge_linkView (n : Fin 4) (edge : Edge) :
    (s.acceptedEdge n edge).linkView = s.linkView := by
  unfold State.acceptedEdge
  dsimp only
  repeat' split
  all_goals simp [State.raiseTrigger]

@[simp] theorem State.becomeActive_linkView (n : Fin 4) :
    (s.becomeActive n).linkView = s.linkView := by
  unfold State.becomeActive
  repeat' split
  all_goals simp

@[simp] theorem State.handOn_linkView (n : Fin 8) (k : Fin 4) (b : Octets) :
    (s.handOn n k b).linkView = s.linkView := by
  refine foldl_field State.linkView (fun u m => ?_) _ s
  unfold State.examine
  dsimp only
  repeat' split
  all_goals simp

@[simp] theorem State.portEvent_linkView (n : Fin 8) (work : Port → Port × Events) :
    (s.portEvent n work).linkView = s.linkView := State.raiseAll_linkView _ _

@[simp] theorem State.takeItem_linkView (n : Fin 8) (i : LineItem) :
    (s.takeItem n i).linkView = s.linkView := by
  cases i with
  | word w => rfl
  | failedFrame => rfl
  | frame f =>
    unfold State.takeItem State.takeFrame
    dsimp only
    repeat' split
    · exact (State.handOn_linkView _ _ _ _).trans (State.portEvent_linkView _ _ _)
    · rfl
    · rfl

@[simp] theorem State.takeStream_linkView (x : Stream) :
    (s.takeStream x).1.linkView = s.linkView := by
  unfold State.takeStream
  dsimp only
  split <;> rfl

@[simp] theorem State.startFrame_linkView : s.startFrame.1.linkView = s.linkView :=
  State.raiseAll_linkView _ _

/-! ### Events that leave them alone -/

theorem eraseEnd_linkView : (eraseEnd s).linkView = s.linkView := by
  unfold eraseEnd
  split <;> rfl

theorem writeEnd_linkView : (writeEnd s).linkView = s.linkView := by
  unfold writeEnd
  split <;> rfl

theorem alertTimerExpiry_linkView (n : Octet) : (alertTimerExpiry n s).linkView = s.linkView := by
  unfold alertTimerExpiry
  repeat' split
  all_goals rfl

theorem triggerRawChange_linkView (n : Fin 4) (level : PinLevel) :
    (triggerRawChange n level s).linkView = s.linkView := rfl

theorem filterTimerExpiry_linkView (n : Fin 4) : (filterTimerExpiry n s).linkView = s.linkView := by
  unfold filterTimerExpiry
  dsimp only
  repeat' split
  all_goals simp

theorem offerWordPeriod_linkView (n : Fin 8) : (offerWordPeriod n s).linkView = s.linkView := by
  unfold offerWordPeriod
  split <;> simp

theorem listenTimerExpiry_linkView (n : Fin 8) : (listenTimerExpiry n s).linkView = s.linkView := by
  unfold listenTimerExpiry
  split <;> simp

theorem linkTimerExpiry_linkView (n : Fin 8) : (linkTimerExpiry n s).linkView = s.linkView := by
  unfold linkTimerExpiry
  split <;> simp

theorem lineOctets_linkView (n : Fin 8) (b : Octets) : (lineOctets n b s).linkView = s.linkView := by
  unfold lineOctets
  dsimp only
  split
  · rfl
  · exact foldl_field State.linkView (fun u i => u.takeItem_linkView n i) _ _

theorem bitFault_linkView (page : Fin 1024) (group : Fin 32) (bits : List Nat) :
    (bitFault page group bits s).linkView = s.linkView := rfl

theorem transmitterFree_linkView : (transmitterFree s).linkView = s.linkView := rfl

theorem startingEnd_linkView : (startingEnd s).linkView = s.linkView := by
  unfold startingEnd
  repeat' split
  all_goals rfl

end Kept

/-! ### Owners: none touches the queues and the buffers, and none answers QUEUE_FULL (R186) -/

/-- What an owner of requests made of a state. -/
structure Quiet (s : State) (work : State × Answer) : Prop where
  view : work.1.linkView = s.linkView
  code : work.2.code ≠ .queueFull

section Owners

variable (b : Octets) (s : State)

theorem svcSet_quiet : Quiet s (svcSet b s) := by
  unfold svcSet
  repeat' split
  all_goals exact ⟨rfl, nofun⟩

theorem svcDrop_quiet : Quiet s (svcDrop b s) := by
  unfold svcDrop
  repeat' split
  all_goals exact ⟨by simp [State.dropService], nofun⟩

theorem svcRead_quiet : Quiet s (reading svcRead b s) := by
  unfold reading svcRead
  repeat' split
  all_goals exact ⟨rfl, nofun⟩

theorem planEdit_quiet : Quiet s (planEdit b s) := by
  unfold planEdit
  dsimp only
  repeat' split
  all_goals exact ⟨rfl, nofun⟩

theorem planCopy_quiet : Quiet s (planCopy b s) := by
  unfold planCopy
  split <;> exact ⟨rfl, nofun⟩

theorem planCommit_quiet : Quiet s (planCommit b s) := by
  unfold planCommit
  repeat' split
  all_goals exact ⟨rfl, nofun⟩

theorem planWithdraw_quiet : Quiet s (planWithdraw b s) := by
  unfold planWithdraw
  repeat' split
  all_goals exact ⟨rfl, nofun⟩

theorem planRead_quiet : Quiet s (reading planRead b s) := by
  unfold reading planRead
  dsimp only
  split <;> exact ⟨rfl, nofun⟩

theorem portSet_quiet : Quiet s (portSet b s) := by
  unfold portSet
  split <;> exact ⟨rfl, nofun⟩

theorem portRenegotiate_quiet : Quiet s (portRenegotiate b s) := by
  unfold portRenegotiate
  repeat' split
  all_goals exact ⟨rfl, nofun⟩

theorem portRead_quiet : Quiet s (portRead b s) := by
  unfold portRead
  split <;> exact ⟨rfl, nofun⟩

theorem outputRead_quiet : Quiet s (outputRead b s) := ⟨rfl, nofun⟩

theorem directoryRead_quiet : Quiet s (directoryRead b s) := ⟨rfl, nofun⟩

theorem objOpen_quiet : Quiet s (objOpen b s) := by
  unfold objOpen
  dsimp only
  repeat' split
  all_goals exact ⟨rfl, nofun⟩

theorem objLoad_quiet : Quiet s (objLoad b s) := by
  unfold objLoad
  dsimp only
  repeat' split
  all_goals exact ⟨rfl, nofun⟩

theorem objClose_quiet : Quiet s (objClose b s) := by
  unfold objClose
  repeat' split
  all_goals exact ⟨rfl, nofun⟩

theorem objDrop_quiet : Quiet s (objDrop b s) := by
  have removals (ids : List Nat) : (ids.foldl State.removeId s).linkView = s.linkView :=
    foldl_field State.linkView State.removeId_linkView ids s
  unfold objDrop
  dsimp only
  repeat' split
  all_goals exact ⟨by simp [removals], nofun⟩

theorem objRead_quiet : Quiet s (objRead b s) := by
  unfold objRead
  dsimp only
  repeat' split
  all_goals exact ⟨by simp, nofun⟩

theorem storeStatus_quiet : Quiet s (reading storeStatus b s) := ⟨rfl, nofun⟩

theorem storeClear_quiet : Quiet s (storeClear b s) := ⟨rfl, nofun⟩

theorem carAdd_quiet : Quiet s (carAdd b s) := by
  unfold carAdd
  repeat' split
  all_goals exact ⟨rfl, nofun⟩

theorem carRemove_quiet : Quiet s (carRemove b s) := by
  unfold carRemove
  split <;> exact ⟨rfl, nofun⟩

theorem carClear_quiet : Quiet s (carClear b s) := by
  unfold carClear
  repeat' split
  all_goals exact ⟨by simp, nofun⟩

theorem carResume_quiet : Quiet s (carResume b s) := by
  unfold carResume
  repeat' split
  all_goals exact ⟨rfl, nofun⟩

theorem carRead_quiet : Quiet s (reading carRead b s) := by
  unfold reading carRead
  split <;> exact ⟨rfl, nofun⟩

theorem tplErase_quiet : Quiet s (tplErase b s) := by
  unfold tplErase
  repeat' split
  all_goals exact ⟨rfl, nofun⟩

theorem tplWrite_quiet : Quiet s (tplWrite b s) := by
  unfold tplWrite
  repeat' split
  all_goals exact ⟨rfl, nofun⟩

theorem tplLock_quiet : Quiet s (tplLock b s) := by
  unfold tplLock
  dsimp only
  repeat' split
  all_goals exact ⟨rfl, nofun⟩

theorem tplUnlock_quiet : Quiet s (tplUnlock b s) := by
  unfold tplUnlock
  repeat' split
  all_goals exact ⟨rfl, nofun⟩

theorem tplRead_quiet : Quiet s (reading tplRead b s) := by
  unfold reading tplRead
  repeat' split
  all_goals exact ⟨rfl, nofun⟩

theorem trigSet_quiet : Quiet s (trigSet b s) := by
  unfold trigSet
  dsimp only
  repeat' split
  all_goals exact ⟨by simp, nofun⟩

theorem trigRead_quiet : Quiet s (trigRead b s) := ⟨rfl, nofun⟩

theorem cueSet_quiet : Quiet s (cueSet b s) := by
  unfold cueSet
  repeat' split
  all_goals exact ⟨rfl, nofun⟩

theorem cueRead_quiet : Quiet s (cueRead b s) := by
  unfold cueRead
  split <;> exact ⟨rfl, nofun⟩

/-- The refusals of a host raise are the alert unit's own (R169). -/
theorem hostContent_code {code : ReplyCode} (h : hostContent b s = .error code) :
    code = .range ∨ code = .notReady := by
  unfold hostContent at h
  repeat' split at h
  all_goals cases h
  · exact .inl rfl
  · exact .inr rfl
  · exact .inl rfl
  · exact .inl rfl

theorem alertRaise_quiet : Quiet s (alertRaise b s) := by
  unfold alertRaise
  dsimp only
  repeat' split
  · rename_i code refused
    rcases hostContent_code b s refused with rfl | rfl <;> exact ⟨rfl, nofun⟩
  · exact ⟨rfl, nofun⟩
  · exact ⟨by simp, nofun⟩

theorem alertClear_quiet : Quiet s (alertClear b s) := by
  unfold alertClear
  repeat' split
  all_goals exact ⟨rfl, nofun⟩

theorem alertList_quiet : Quiet s (reading alertList b s) := ⟨rfl, nofun⟩

theorem reportSet_quiet : Quiet s (reportSet b s) := by
  unfold reportSet
  split <;> exact ⟨rfl, nofun⟩

theorem pendingRead_quiet : Quiet s (pendingRead b s) := ⟨rfl, nofun⟩

theorem statusRead_quiet : Quiet s (reading statusRead b s) := ⟨rfl, nofun⟩

theorem linkRead_quiet : Quiet s (linkRead b s) := ⟨rfl, nofun⟩

end Owners

end Sys2Proof.Machine
end

section
/-! PROOFS. The laws of the request queue, of the replies, of the two buffers and of the idle transmitter,
and that every step keeps them (R65, R70, R186, R189). -/

namespace Sys2Proof.Machine

/-! ### The law of the queues (R186, R189) -/

/-- The law of the queues by itself (R186, R189, R194). -/
structure Queues.Lawful (q : Queues) : Prop where
  queue : q.requests.length ≤ 4
  full : (q.replies.filter fun x => decide (x.code = .queueFull)).length ≤ 4
  one : (q.replies.filter fun x => decide (x.code ≠ .queueFull)).length ≤ 1
  waits : q.restarting.isSome = true → ∀ x ∈ q.replies, x.code = .queueFull

theorem controlLaw_iff (s : State) : ControlLaw s ↔ s.control.queues.Lawful :=
  ⟨fun h => ⟨h.queue, h.full, h.one, h.waits⟩, fun h => ⟨h.queue, h.full, h.one, h.waits⟩⟩

theorem Queues.Lawful.empty : Queues.Lawful { requests := [], replies := [], restarting := none } where
  queue := Nat.zero_le _
  full := Nat.zero_le _
  one := Nat.zero_le _
  waits := nofun

/-- Replies that go out only leave room. -/
theorem Queues.Lawful.fewer {q : Queues} (h : q.Lawful) {l : List Reply} (some_left : l.Sublist q.replies) :
    Queues.Lawful { q with replies := l } where
  queue := h.queue
  full := (some_left.filter _).length_le.trans h.full
  one := (some_left.filter _).length_le.trans h.one
  waits restarting x hx := h.waits restarting x (some_left.subset hx)

/-- One more QUEUE_FULL reply, while fewer than 4 wait (R186). -/
theorem Queues.Lawful.refuse {q : Queues} (h : q.Lawful) {x : Reply} (code : x.code = .queueFull)
    (room : (q.replies.filter fun x => decide (x.code = .queueFull)).length < 4) :
    Queues.Lawful { q with replies := q.replies ++ [x] } where
  queue := h.queue
  full := by
    simp only [List.filter_append, List.length_append, List.filter_cons, code, decide_true, if_true]
    simpa using room
  one := by simpa [List.filter_append, code] using h.one
  waits restarting y hy := by
    rcases List.mem_append.mp hy with old | new
    · exact h.waits restarting y old
    · rw [List.mem_singleton.mp new, code]

/-- The one reply that may wait beside the QUEUE_FULL replies (R189). -/
theorem Queues.Lawful.reply {q : Queues} (h : q.Lawful) {requests : List Request}
    (fewer : requests.length ≤ q.requests.length) (begun : ∀ x ∈ q.replies, x.code = .queueFull)
    {x : Reply} (code : x.code ≠ .queueFull) :
    Queues.Lawful { requests := requests, replies := q.replies ++ [x], restarting := none } where
  queue := fewer.trans h.queue
  full := by simpa [List.filter_append, code] using h.full
  one := by
    have none_other : q.replies.filter (fun x => decide (x.code ≠ .queueFull)) = [] :=
      List.filter_eq_nil_iff.mpr fun y hy => by simp [begun y hy]
    rw [List.filter_append, none_other, List.nil_append]
    exact List.length_filter_le _ _
  waits := nofun

/-! ### The law of the buffers (R65, R70) -/

/-- One buffer is LAST SENT, and the other ASSEMBLING or COMPLETE. -/
def FrameBuffer.Pair (a b : FrameBuffer) : Prop :=
  ∃ f, a = .lastSent f ∧ ((∃ g p, b = .assembling g p) ∨ ∃ g, b = .complete g)

/-- The law of the buffers by itself. -/
structure Buffers.Lawful (o : Buffers) : Prop where
  waiting : o.state = .waiting → o.bufferA = .empty ∧ o.bufferB = .empty ∧ o.link = .idle
  pulled : o.state ≠ .waiting → o.bufferA.Pair o.bufferB ∨ o.bufferB.Pair o.bufferA
  timing : o.stallTimer.isSome = true ↔ o.state = .running

theorem outputLaw_iff (s : State) : OutputLaw s ↔ s.output.buffers.Lawful :=
  ⟨fun h => ⟨h.waiting, h.pulled, h.timing⟩, fun h => ⟨h.waiting, h.pulled, h.timing⟩⟩

theorem Output.initial_lawful : Output.initial.buffers.Lawful where
  waiting _ := ⟨rfl, rfl, rfl⟩
  pulled h := absurd rfl h
  timing := by decide

section Buffers

variable {o : Output}

/-- After a pull that sends a frame (R66 to R68). -/
theorem Output.sending_lawful {a b : FrameBuffer} (pair : a.Pair b ∨ b.Pair a) :
    (o.sending a b).buffers.Lawful where
  waiting := nofun
  pulled _ := pair
  timing := ⟨fun _ => rfl, fun _ => rfl⟩

theorem FrameBuffer.Pair.resend {a b : FrameBuffer} (h : a.Pair b) : a.resend.Pair b.resend := by
  obtain ⟨f, rfl, ⟨g, p, rfl⟩ | ⟨g, rfl⟩⟩ := h
  · exact ⟨_, rfl, .inl ⟨g, p, rfl⟩⟩
  · exact ⟨_, rfl, .inr ⟨g, rfl⟩⟩

/-- The assembling buffer of a pair is the second. -/
theorem FrameBuffer.Pair.replaceWork {a b new : FrameBuffer} (h : a.Pair b)
    (work : (∃ g p, new = .assembling g p) ∨ ∃ g, new = .complete g) :
    (a.replaceWork new).Pair (b.replaceWork new) := by
  obtain ⟨f, rfl, ⟨g, p, rfl⟩ | ⟨g, rfl⟩⟩ := h
  · exact ⟨f, rfl, work⟩
  · exact ⟨f, rfl, .inr ⟨g, rfl⟩⟩

theorem Output.setWork_lawful (h : o.buffers.Lawful) {new : FrameBuffer}
    (work : (∃ g p, new = .assembling g p) ∨ ∃ g, new = .complete g) :
    (o.setWork new).buffers.Lawful where
  waiting state := by
    obtain ⟨emptyA, emptyB, idle⟩ := h.waiting state
    refine ⟨?_, ?_, idle⟩
    · show o.bufferA.replaceWork new = .empty
      rw [show o.bufferA = .empty from emptyA]; rfl
    · show o.bufferB.replaceWork new = .empty
      rw [show o.bufferB = .empty from emptyB]; rfl
  pulled state := (h.pulled state).imp (·.replaceWork work) (·.replaceWork work)
  timing := h.timing

end Buffers

/-! ### Both laws from one state to another -/

/-- From one state to the other both laws are kept. -/
structure State.KeepsLink (s t : State) : Prop where
  queues : s.control.queues.Lawful → t.control.queues.Lawful
  buffers : s.output.buffers.Lawful → t.output.buffers.Lawful

section Keeps

variable {s t u : State}

theorem State.KeepsLink.of_view (h : t.linkView = s.linkView) : s.KeepsLink t where
  queues law := by rw [show t.control.queues = s.control.queues from congrArg LinkView.queues h]; exact law
  buffers law := by
    rw [show t.output.buffers = s.output.buffers from congrArg LinkView.buffers h]; exact law

theorem State.KeepsLink.trans (h : s.KeepsLink t) (k : t.KeepsLink u) : s.KeepsLink u where
  queues law := k.queues (h.queues law)
  buffers law := k.buffers (h.buffers law)

/-- The output changed, and its law kept. -/
theorem State.KeepsLink.of_output (s : State) {o : Output}
    (h : s.output.buffers.Lawful → o.buffers.Lawful) : s.KeepsLink (s.withOutput o) := ⟨id, h⟩

/-- The control unit changed, and its law kept. -/
theorem State.KeepsLink.of_control (s : State) {c : Control}
    (h : s.control.queues.Lawful → c.queues.Lawful) : s.KeepsLink (s.withControl c) := ⟨h, id⟩

end Keeps

/-! ### The control unit's own operations -/

section ControlUnit

variable {c : Control}

/-- The transmitter takes the oldest reply, or none (R189). -/
theorem Control.choose_queues (c : Control) :
    c.choose.queues = c.queues ∨ c.choose.queues = { c.queues with replies := c.replies.tail } := by
  unfold Control.choose
  repeat' split
  · exact .inl rfl
  · rename_i h
    rw [h]
    exact .inr rfl
  · exact .inl rfl
  · exact .inl rfl

theorem Control.choose_lawful (h : c.queues.Lawful) : c.choose.queues.Lawful := by
  rcases c.choose_queues with same | sent
  · rwa [same]
  · rw [sent]
    exact h.fewer (List.tail_sublist _)

theorem State.choose_keepsLink (s : State) : s.KeepsLink s.choose := .of_control s Control.choose_lawful

/-- A well-formed request joins the queue, is refused QUEUE_FULL, or is dropped (R186). -/
theorem Control.accept_lawful (h : c.queues.Lawful) (r : Request) : (c.accept r).queues.Lawful := by
  unfold Control.accept
  repeat' split
  · rename_i room
    refine ⟨?_, h.full, h.one, h.waits⟩
    show (c.requests ++ [r]).length ≤ 4
    simpa using room
  · rename_i room
    exact h.refuse rfl room
  · exact h

theorem Control.found_lawful (h : c.queues.Lawful) (x : Received) : (c.found x).queues.Lawful := by
  cases x with
  | message r => exact Control.choose_lawful (Control.accept_lawful h r)
  | fault reason => exact Control.choose_lawful (c := (c.countFault _).raise _ _) h

/-- Taking the oldest request asks that no other is being carried out or answered (R187). -/
theorem Control.takes_spec {command : Instr} {r : Request} {rest : Control}
    (h : c.takes command = some (r, rest)) :
    ∃ more, c.requests = r :: more ∧ rest = { c with requests := more } ∧
      c.restarting = none ∧ ∀ x ∈ c.replies, x.code = .queueFull := by
  unfold Control.takes at h
  split at h
  · cases h
  · rename_i more requests
    split at h
    · rename_i may
      obtain ⟨free, begun⟩ := Bool.and_eq_true_iff.mp may.1
      cases h
      exact ⟨more, requests, rfl, by simpa using free, by simpa using begun⟩
    · cases h

/-- A request taken leaves a lawful queue. -/
theorem Control.takes_lawful {command : Instr} {r : Request} {rest : Control}
    (h : c.takes command = some (r, rest)) (law : c.queues.Lawful) : rest.queues.Lawful := by
  obtain ⟨more, requests, rfl, free, begun⟩ := Control.takes_spec h
  refine ⟨le_trans ?_ law.queue, law.full, law.one, law.waits⟩
  show more.length ≤ c.requests.length
  rw [requests]
  exact Nat.le_succ _

/-- Its reply is then the only one beside the QUEUE_FULL replies. -/
theorem Control.takes_reply_lawful {command : Instr} {r : Request} {rest : Control}
    (h : c.takes command = some (r, rest)) (law : c.queues.Lawful) {x : Reply}
    (code : x.code ≠ .queueFull) :
    Queues.Lawful
      { requests := rest.requests, replies := rest.replies ++ [x], restarting := none } := by
  have taken := Control.takes_lawful h law
  obtain ⟨more, _, rfl, _, begun⟩ := Control.takes_spec h
  exact taken.reply le_rfl begun code

end ControlUnit

/-! ### Events and requests -/

section Events

variable {s t : State}

theorem event_keepsLink {f : State → State} (work : s.KeepsLink (f s)) (h : event f s = .next t) :
    s.KeepsLink t := by
  rcases event_next h with ⟨_, rfl⟩ | ⟨_, rfl⟩
  · exact .of_view rfl
  · exact work.trans (State.choose_keepsLink _)

/-- A request taken and answered by any code but QUEUE_FULL, with nothing else done to the view. -/
theorem answer_keepsLink {command : Instr} {r : Request} {rest : Control} {a : Answer}
    (taken : s.control.takes command = some (r, rest)) (code : a.code ≠ .queueFull)
    (view : t.linkView = (s.withControl rest).linkView) : s.KeepsLink (t.answer r a) where
  queues law := by
    have reply := Control.takes_reply_lawful (x := ⟨r.kind, r.tag, a.code, a.result⟩) taken law code
    have queues : t.control.queues = rest.queues := congrArg LinkView.queues view
    obtain ⟨_, _, rfl, free, _⟩ := Control.takes_spec taken
    rw [← free] at reply
    show Queues.Lawful { t.control.queues with replies := t.control.queues.replies ++ [_] }
    rw [queues]
    exact reply
  buffers law := by
    have buffers : t.output.buffers = s.output.buffers := congrArg LinkView.buffers view
    exact buffers ▸ law

theorem request_keepsLink {command : Instr} {owner : Octets → State → State × Answer}
    (quiet : ∀ b u, Quiet u (owner b u)) (h : event (request command owner) s = .next t) :
    s.KeepsLink t := by
  refine event_keepsLink ?_ h
  unfold request
  split
  · exact .of_view rfl
  · rename_i r rest taken
    unfold serve
    split
    · exact answer_keepsLink taken nofun rfl
    · split
      · exact answer_keepsLink taken (quiet _ _).code (quiet _ _).view
      · exact answer_keepsLink taken nofun rfl

theorem event_keepsLink_of_view {f : State → State} (work : ∀ u, (f u).linkView = u.linkView)
    (h : event f s = .next t) : s.KeepsLink t := event_keepsLink (.of_view (work s)) h

end Events

/-! ### The events at the control unit -/

section ControlEvents

variable (s : State)

theorem messageReceived_keepsLink (octets : List LineOctet) : s.KeepsLink (messageReceived octets s) := by
  refine .of_control s fun law => ?_
  exact List.foldlRecOn (motive := fun c : Control => c.queues.Lawful) _ _ law
    fun _ h x _ => Control.found_lawful h x

theorem unknownKind_keepsLink : s.KeepsLink (unknownKind s) := by
  unfold unknownKind
  split
  · exact .of_view rfl
  · rename_i r rest taken
    split
    · exact answer_keepsLink taken nofun rfl
    · exact answer_keepsLink taken nofun rfl

/-- A restart empties nothing of the queue, and places its reply (R194). -/
theorem State.restart_keepsLink (tag : Octet)
    (begun : ∀ x ∈ s.control.replies, x.code = .queueFull) : s.KeepsLink (s.restart tag) where
  queues law := law.reply (x := ⟨0x7C, tag, .done, []⟩) le_rfl begun nofun
  buffers law := law

theorem restartRequest_keepsLink : s.KeepsLink (restartRequest s) := by
  unfold restartRequest
  split
  · exact .of_view rfl
  · rename_i r rest taken
    split
    · exact answer_keepsLink taken nofun rfl
    · have took : s.KeepsLink (s.withControl rest) := .of_control s (Control.takes_lawful taken)
      have begun : ∀ x ∈ rest.replies, x.code = .queueFull := by
        obtain ⟨_, _, rfl, _, begun⟩ := Control.takes_spec taken
        exact begun
      unfold restartReady
      split
      · exact answer_keepsLink taken nofun rfl
      · split
        · exact took.trans (.of_control _ fun law => ⟨law.queue, law.full, law.one, fun _ => begun⟩)
        · exact took.trans (State.restart_keepsLink _ r.tag begun)

/-- While a RESTART waits only QUEUE_FULL replies do (R189). -/
theorem restartAfterAssembly_keepsLink : s.KeepsLink (restartAfterAssembly s) := by
  unfold restartAfterAssembly
  split
  · exact .of_view rfl
  · rename_i tag waiting
    split
    · exact .of_view rfl
    · refine ⟨fun law => ?_, id⟩
      have begun := law.waits (by show s.control.restarting.isSome = true; rw [waiting]; rfl)
      exact (s.restart_keepsLink tag begun).queues law

end ControlEvents

/-! ### The events at the assembler and the output link -/

section Assembler

variable (s : State)

theorem State.putBack_keepsLink (a : Assembly) : s.KeepsLink (s.putBack a) :=
  .trans (.of_output s fun law => Output.setWork_lawful law (.inl ⟨a.frame, a.progress, rfl⟩))
    (.of_view (State.raiseAll_linkView _ _))

theorem streamTake_keepsLink : s.KeepsLink (streamTake s) := by
  unfold streamTake
  dsimp only
  repeat' split
  · exact .of_view rfl
  · exact s.putBack_keepsLink _
  · exact .trans (.of_view (s.takeStream_linkView _)) (State.putBack_keepsLink _ _)
  · exact s.putBack_keepsLink _

theorem cellRequest_keepsLink : s.KeepsLink (cellRequest s) := by
  unfold cellRequest
  dsimp only
  repeat' split
  · exact .of_view rfl
  · exact .of_view rfl
  · exact .of_view rfl
  · exact .trans (.of_view (s.carouselCell_linkView _ _)) (State.putBack_keepsLink _ _)

theorem alertCellRequest_keepsLink : s.KeepsLink (alertCellRequest s) := by
  unfold alertCellRequest
  dsimp only
  repeat' split
  · exact .of_view rfl
  · exact .of_view rfl
  · exact .of_view rfl
  · exact .trans (t := (s.alertTextCell _ _ _).1) (.of_view rfl) (State.putBack_keepsLink _ _)

theorem frameAssemblyComplete_keepsLink : s.KeepsLink (frameAssemblyComplete s) := by
  unfold frameAssemblyComplete
  repeat' split
  · exact .of_view rfl
  · rename_i a _ _
    exact (s.putBack_keepsLink a).trans
      (.of_output _ fun law => Output.setWork_lawful law (.inr ⟨a.frame, rfl⟩))
  · exact .of_view rfl

theorem outputTransmissionEnd_keepsLink : s.KeepsLink (outputTransmissionEnd s) :=
  .of_output s fun law =>
    ⟨fun state => ⟨(law.waiting state).1, (law.waiting state).2.1, rfl⟩, law.pulled, law.timing⟩

/-- The stall timer runs while RUNNING only, so the output has been pulled (R70). -/
theorem stallTimerExpiry_keepsLink : s.KeepsLink (stallTimerExpiry s) := by
  unfold stallTimerExpiry
  split
  · rename_i due
    refine ⟨id, fun law => ⟨nofun, fun _ => law.pulled ?_, ⟨nofun, nofun⟩⟩⟩
    have running : s.output.state = .running :=
      law.timing.mp (by
        show s.output.stallTimer.isSome = true
        rw [(Timer.due_iff _).mp due]
        rfl)
    show s.output.state ≠ .waiting
    rw [running]
    nofun
  · exact .of_view rfl

/-- A pull that starts the next assembly in the buffer beside the frame sent (R66, R67, R72). -/
theorem State.startFrame_keepsLink {a b : FrameBuffer} (pair : a.Pair b ∨ b.Pair a) :
    s.KeepsLink (s.startFrame.1.withOutput (s.startFrame.1.output.sending a b)) :=
  .trans (.of_view s.startFrame_linkView) (.of_output _ fun _ => Output.sending_lawful pair)

/-- The buffer that a start assembles in stands beside a frame sent. -/
theorem State.startFrame_pair (sent : CarriageFrame) : (FrameBuffer.lastSent sent).Pair s.startFrame.2 :=
  ⟨sent, rfl, .inl ⟨_, _, rfl⟩⟩

theorem State.repeatFrame_keepsLink (state : s.output.state ≠ .waiting) : s.KeepsLink s.repeatFrame :=
  ⟨id, fun law =>
    Output.sending_lawful (o := s.output) ((law.pulled state).imp (·.resend) (·.resend))⟩

theorem framePull_keepsLink : s.KeepsLink (framePull s) := by
  unfold framePull
  split
  · exact .of_view rfl
  · exact s.startFrame_keepsLink (.inl (s.startFrame_pair _))
  · exact .of_view rfl
  · rename_i pulled
    unfold State.answerPull
    split
    · exact s.startFrame_keepsLink (.inl (s.startFrame_pair _))
    · exact s.startFrame_keepsLink (.inr (s.startFrame_pair _))
    · split
      · exact s.repeatFrame_keepsLink pulled
      · exact .of_view rfl

end Assembler

/-! ### Power, the 1 ms time base, and every command -/

/-- Power-on, hard reset and loss of power empty the queue and the buffers (R84, R193). -/
theorem State.started_keepsLink (s : State) (straps : BitVec 2) (cause : StartCause) (t : TemplateStore)
    (p : Bool) : s.KeepsLink (s.started (Control.initial straps cause) t p) :=
  ⟨fun _ => .empty, fun _ => Output.initial_lawful⟩

/-- A millisecond neither starts nor stops the stall timer. -/
theorem State.tick_keepsLink (s : State) : s.KeepsLink s.tick where
  queues law := law
  buffers law := by
    refine ⟨law.waiting, law.pulled, ?_⟩
    show s.output.stallTimer.tick.isSome = true ↔ _
    rw [Timer.tick, Option.isSome_map]
    exact law.timing

section Commands

variable {s t : State}

theorem execTriggerRawChange_keepsLink {n : Fin 4} {level : PinLevel}
    (h : execTriggerRawChange n level s = .next t) : s.KeepsLink t := by
  unfold execTriggerRawChange at h
  split at h
  · exact event_keepsLink_of_view (triggerRawChange_linkView · n level) h
  · cases h
    exact .of_view rfl

/-- Every command, by the lemma on its own work. -/
theorem exec_keepsLink (c : Instr) (h : exec c s = .next t) : s.KeepsLink t := by
  cases c with
  | powerOn straps => cases h; exact s.started_keepsLink _ _ _ _
  | hardReset straps =>
    change Host.Outcome.next _ = _ at h
    split at h
    all_goals cases h
    · exact s.started_keepsLink _ _ _ _
    · exact .of_view rfl
  | lossOfPower => cases h; exact s.started_keepsLink _ _ _ _
  | svcSet => exact request_keepsLink svcSet_quiet h
  | svcDrop => exact request_keepsLink svcDrop_quiet h
  | svcRead => exact request_keepsLink svcRead_quiet h
  | planEdit => exact request_keepsLink planEdit_quiet h
  | planCopy => exact request_keepsLink planCopy_quiet h
  | planCommit => exact request_keepsLink planCommit_quiet h
  | planWithdraw => exact request_keepsLink planWithdraw_quiet h
  | planRead => exact request_keepsLink planRead_quiet h
  | portSet => exact request_keepsLink portSet_quiet h
  | portRenegotiate => exact request_keepsLink portRenegotiate_quiet h
  | portRead => exact request_keepsLink portRead_quiet h
  | outputRead => exact request_keepsLink outputRead_quiet h
  | directoryRead => exact request_keepsLink directoryRead_quiet h
  | objOpen => exact request_keepsLink objOpen_quiet h
  | objLoad => exact request_keepsLink objLoad_quiet h
  | objClose => exact request_keepsLink objClose_quiet h
  | objDrop => exact request_keepsLink objDrop_quiet h
  | objRead => exact request_keepsLink objRead_quiet h
  | storeStatus => exact request_keepsLink storeStatus_quiet h
  | storeClear => exact request_keepsLink storeClear_quiet h
  | carAdd => exact request_keepsLink carAdd_quiet h
  | carRemove => exact request_keepsLink carRemove_quiet h
  | carClear => exact request_keepsLink carClear_quiet h
  | carResume => exact request_keepsLink carResume_quiet h
  | carRead => exact request_keepsLink carRead_quiet h
  | tplErase => exact request_keepsLink tplErase_quiet h
  | tplWrite => exact request_keepsLink tplWrite_quiet h
  | tplLock => exact request_keepsLink tplLock_quiet h
  | tplUnlock => exact request_keepsLink tplUnlock_quiet h
  | tplRead => exact request_keepsLink tplRead_quiet h
  | trigSet => exact request_keepsLink trigSet_quiet h
  | trigRead => exact request_keepsLink trigRead_quiet h
  | cueSet => exact request_keepsLink cueSet_quiet h
  | cueRead => exact request_keepsLink cueRead_quiet h
  | alertRaise => exact request_keepsLink alertRaise_quiet h
  | alertClear => exact request_keepsLink alertClear_quiet h
  | alertList => exact request_keepsLink alertList_quiet h
  | reportSet => exact request_keepsLink reportSet_quiet h
  | pendingRead => exact request_keepsLink pendingRead_quiet h
  | status => exact request_keepsLink statusRead_quiet h
  | linkRead => exact request_keepsLink linkRead_quiet h
  | restart => exact event_keepsLink (restartRequest_keepsLink s) h
  | restartAfterAssembly => exact event_keepsLink (restartAfterAssembly_keepsLink s) h
  | messageReceived octets => exact event_keepsLink (messageReceived_keepsLink s octets) h
  | unknownKind => exact event_keepsLink (unknownKind_keepsLink s) h
  | framePull => exact event_keepsLink (framePull_keepsLink s) h
  | streamTake => exact event_keepsLink (streamTake_keepsLink s) h
  | cellRequest => exact event_keepsLink (cellRequest_keepsLink s) h
  | alertCellRequest => exact event_keepsLink (alertCellRequest_keepsLink s) h
  | frameAssemblyComplete => exact event_keepsLink (frameAssemblyComplete_keepsLink s) h
  | outputTransmissionEnd => exact event_keepsLink (outputTransmissionEnd_keepsLink s) h
  | stallTimerExpiry => exact event_keepsLink (stallTimerExpiry_keepsLink s) h
  | transmitterFree => exact event_keepsLink_of_view transmitterFree_linkView h
  | startingEnd => exact event_keepsLink_of_view startingEnd_linkView h
  | bitFault page group bits => exact event_keepsLink_of_view (bitFault_linkView · page group bits) h
  | offerWordReceived n octets | contributionFrame n octets =>
    exact event_keepsLink_of_view (lineOctets_linkView · n octets) h
  | offerWordPeriod n => exact event_keepsLink_of_view (offerWordPeriod_linkView · n) h
  | listenTimerExpiry n => exact event_keepsLink_of_view (listenTimerExpiry_linkView · n) h
  | linkTimerExpiry n => exact event_keepsLink_of_view (linkTimerExpiry_linkView · n) h
  | triggerRawChange n level => exact execTriggerRawChange_keepsLink h
  | filterTimerExpiry n => exact event_keepsLink_of_view (filterTimerExpiry_linkView · n) h
  | alertTimerExpiry n => exact event_keepsLink_of_view (alertTimerExpiry_linkView · n) h
  | eraseEnd => exact event_keepsLink_of_view eraseEnd_linkView h
  | writeEnd => exact event_keepsLink_of_view writeEnd_linkView h

theorem step_keepsLink (h : step s = .next t) : s.KeepsLink t := by
  unfold step at h
  split at h
  · cases h
    split
    · exact s.tick_keepsLink
    · exact .of_view rfl
  · rename_i c rest _
    exact .trans (t := s.withPending rest) (.of_view rfl) (exec_keepsLink c h)

end Commands

/-! ### The idle transmitter (R189) -/

section Transmitter

variable {s t : State}

/-- Every event ends with the transmitter's choice, or has no effect. -/
theorem event_transmitterLaw {f : State → State} (hs : TransmitterLaw s) (h : event f s = .next t) :
    TransmitterLaw t := by
  rcases event_next h with ⟨_, rfl⟩ | ⟨_, rfl⟩
  · exact hs
  · exact Control.choose_idem _

/-- The start timer has no part in the choice. -/
theorem Control.choose_tick (c : Control) : c.tick.choose = c.choose.tick := by
  have source : c.tick.noticeSource = c.noticeSource := rfl
  unfold Control.choose
  rw [source]
  simp only [Control.tick]
  repeat' split
  all_goals rfl

theorem exec_transmitterLaw (c : Instr) (hs : TransmitterLaw s) (h : exec c s = .next t) :
    TransmitterLaw t := by
  cases c
  case powerOn straps => cases h; rfl
  case lossOfPower => cases h; rfl
  case hardReset straps =>
    change Host.Outcome.next _ = _ at h
    split at h
    all_goals cases h
    · rfl
    · exact hs
  case triggerRawChange n level =>
    change execTriggerRawChange n level s = _ at h
    unfold execTriggerRawChange at h
    split at h
    · exact event_transmitterLaw hs h
    · cases h
      exact hs
  all_goals exact event_transmitterLaw hs h

theorem step_transmitterLaw (hs : TransmitterLaw s) (h : step s = .next t) : TransmitterLaw t := by
  unfold step at h
  split at h
  · cases h
    split
    · show s.control.tick.choose = s.control.tick
      rw [Control.choose_tick, show s.control.choose = s.control from hs]
    · exact hs
  · rename_i c rest _
    exact exec_transmitterLaw c (s := s.withPending rest) hs h

end Transmitter

end Sys2Proof.Machine

open Sys2Proof Sys2Proof.Machine

/-- Settles O58: the buffers and the queues by `step_keepsLink`, the transmitter by its choice at the end
of every event. -/
theorem outputAndControlLawsKept : Obligations.OutputAndControlLawsKept := by
  intro s t h
  have keeps := step_keepsLink h
  rw [outputLaw_iff, outputLaw_iff, controlLaw_iff, controlLaw_iff]
  exact ⟨keeps.buffers, keeps.queues, fun hs => step_transmitterLaw hs h⟩

end

section
/-! PROOFS. Frame pulls by the output's state, the end of a transmission, and the stall (R66 to R71). -/

namespace Sys2Proof.Machine

/-! ### A pull by the control unit's phase, the output's state and the link (R66 to R69) -/

section Pulls

variable {s : State}

theorem framePull_starting (phase : s.control.phase = .starting) : framePull s = s := by
  simp only [framePull, phase]

theorem framePull_first (phase : s.control.phase = .ready) (state : s.output.state = .waiting) :
    framePull s = s.firstPull := by
  simp only [framePull, phase, state]

theorem framePull_early (phase : s.control.phase = .ready) (state : s.output.state ≠ .waiting)
    (link : s.output.link = .sending) : framePull s = s.earlyPull := by
  unfold framePull
  rw [phase, link]
  cases h : s.output.state with
  | waiting => exact absurd h state
  | running => rfl
  | stalled => rfl

theorem framePull_answers (phase : s.control.phase = .ready) (state : s.output.state ≠ .waiting)
    (link : s.output.link = .idle) : framePull s = s.answerPull := by
  unfold framePull
  rw [phase, link]
  cases h : s.output.state with
  | waiting => exact absurd h state
  | running => rfl
  | stalled => rfl

/-! ### An answer by the two buffers (R67, R68) -/

variable {f g : CarriageFrame} {p : Progress}

theorem State.answerPull_completeA (inA : s.output.bufferA = .complete g) :
    s.answerPull = s.sendComplete g true := by
  simp only [State.answerPull, inA]

theorem State.answerPull_completeB (sent : s.output.bufferA = .lastSent f)
    (inB : s.output.bufferB = .complete g) : s.answerPull = s.sendComplete g false := by
  simp only [State.answerPull, sent, inB]

theorem State.answerPull_lateA (sent : s.output.bufferA = .lastSent f)
    (unfinished : s.output.bufferB = .assembling g p) : s.answerPull = s.repeatFrame := by
  simp only [State.answerPull, Output.assembling, sent, unfinished, FrameBuffer.isAssembling,
    Bool.or_true, if_true]

theorem State.answerPull_lateB (sent : s.output.bufferB = .lastSent f)
    (unfinished : s.output.bufferA = .assembling g p) : s.answerPull = s.repeatFrame := by
  simp only [State.answerPull, Output.assembling, sent, unfinished, FrameBuffer.isAssembling,
    Bool.true_or, if_true]

/-- The LAST SENT frame in buffer A goes out again (R68). -/
theorem State.repeatFrame_inA (sent : s.output.bufferA = .lastSent f)
    (unfinished : s.output.bufferB = .assembling g p) :
    s.repeatFrame =
      (s.withOutput
        { s.output with
          state := .running, bufferA := .lastSent { f with resent := true }, link := .sending
          stallTimer := some 360, repeats := satInc s.output.repeats }).raise .frameLate
        (be16 f.count.toNat) := by
  simp only [State.repeatFrame, Output.sending, Output.lastSentCount, sent, unfinished,
    FrameBuffer.resend, stallLimit]

/-- The LAST SENT frame in buffer B goes out again (R68). -/
theorem State.repeatFrame_inB (sent : s.output.bufferB = .lastSent f)
    (unfinished : s.output.bufferA = .assembling g p) :
    s.repeatFrame =
      (s.withOutput
        { s.output with
          state := .running, bufferB := .lastSent { f with resent := true }, link := .sending
          stallTimer := some 360, repeats := satInc s.output.repeats }).raise .frameLate
        (be16 f.count.toNat) := by
  simp only [State.repeatFrame, Output.sending, Output.lastSentCount, sent, unfinished,
    FrameBuffer.resend, stallLimit]

/-- The stall itself (R70). -/
theorem stallTimerExpiry_due (timer : s.output.stallTimer = some 0) :
    stallTimerExpiry s =
      (s.withOutput
        { s.output with
          state := .stalled, stallTimer := none, stalls := satInc s.output.stalls }).raise
        .outputStalled (be16 s.output.count.toNat) := if_pos ((Timer.due_iff _).mpr timer)

end Pulls

end Sys2Proof.Machine

open Sys2Proof Sys2Proof.Machine

/-- Settles O30: each pull by the state that it finds, the stall by its timer. -/
theorem lateAndEarlyPullsAndStalls : Obligations.LateAndEarlyPullsAndStalls := by
  intro s on
  refine ⟨fun f g p phase state link sent unfinished => ?_,
    fun f g p phase state link sent unfinished => ?_, fun phase state link => ?_, fun phase => ?_,
    event_on on, fun timer => ?_, fun timer => ?_⟩
  · refine (event_on on).trans ?_
    rw [framePull_answers phase state link, State.answerPull_lateA sent unfinished,
      State.repeatFrame_inA sent unfinished]
  · refine (event_on on).trans ?_
    rw [framePull_answers phase state link, State.answerPull_lateB sent unfinished,
      State.repeatFrame_inB sent unfinished]
  · refine (event_on on).trans ?_
    rw [framePull_early phase state link, State.earlyPull]
  · refine (event_on on).trans ?_
    rw [framePull_starting phase]
  · refine (event_on on).trans ?_
    rw [stallTimerExpiry_otherwise (Timer.not_due timer)]
  · refine (event_on on).trans ?_
    rw [stallTimerExpiry_due timer]

end

section
/-! PROOFS. The data-share cells, and the completion of a frame (R73, R77, R78, R179, R180). -/

namespace Sys2Proof.Machine

/-! ### The assembly put back where nothing was passed -/

section PutBack

variable {s : State} {f g : CarriageFrame} {p q : Progress}

/-- An assembly without fit faults put back changes the assembling buffer only. -/
theorem State.passed_assemblyOf (s u : State) (same : u.output = s.output) :
    u.passed (s.assemblyOf g q) = u.withOutput (s.output.setWork (.assembling g q)) := by
  rw [State.passed, same]
  rfl

/-- With its audio portion done, a run waits at a data-share cell that is left (R77). -/
theorem State.reached_share {r : FrameRun} {more : List FrameRun} (work : s.output.work = some (f, p))
    (runs : p.runs = r :: more) (done : p.audioDone = true) (left : p.cellsDone < r.run.share) :
    s.reached = some (s.assemblyOf f p) :=
  s.reached_of_waits work (.inr ⟨r, more, runs, .inl ⟨done, left⟩⟩)

end PutBack

section Shares

variable {s : State} {a : Assembly} {r : FrameRun} {more : List FrameRun}

theorem Assembly.shareRun_first (runs : a.progress.runs = r :: more)
    (done : a.progress.audioDone = true) : a.shareRun = some r := by
  simp only [Assembly.shareRun, runs, done]

/-- CELL_REQUEST where the run reached is OWN (R77). -/
theorem cellRequest_own (h : s.reached = some a) (runs : a.progress.runs = r :: more)
    (done : a.progress.audioDone = true) (own : r.taken = none) :
    cellRequest s =
      (s.carouselCell r.service (decide (a.progress.cellsDone = 0))).1.passed
        (a.place r (s.carouselCell r.service (decide (a.progress.cellsDone = 0))).2) := by
  simp only [cellRequest, h, Assembly.shareRun_first runs done, own, State.putBack_eq]

/-- ALERT_CELL_REQUEST where the run reached is taken (R78). -/
theorem alertCellRequest_taken {hold : TextHold} (h : s.reached = some a)
    (runs : a.progress.runs = r :: more) (done : a.progress.audioDone = true)
    (taken : r.taken = some hold) :
    alertCellRequest s =
      (s.alertTextCell r.service hold (decide (a.progress.cellsDone = 0))).1.passed
        (a.place r (s.alertTextCell r.service hold (decide (a.progress.cellsDone = 0))).2) := by
  simp only [alertCellRequest, h, Assembly.shareRun_first runs done, taken, State.putBack_eq]

/-- FRAME_ASSEMBLY_COMPLETE where every run is placed (R73). -/
theorem frameAssemblyComplete_placed (h : s.reached = some a) (placed : a.progress.runs = []) :
    frameAssemblyComplete s = (s.passed a).setWork (.complete a.frame) := by
  simp only [frameAssemblyComplete, h, placed, if_true, State.putBack_eq]

end Shares

/-! ### The alert text's answers (R179, R180) -/

section Texts

variable {hold : TextHold} {i : Fin 32}

/-- A text's fragment at the cursor, laid out in 32 octets. -/
theorem fragmentOctets_drop (text : Octets) (c : Nat) :
    fragmentOctets (text.drop (32 * c)) text.length c = padTo 32 (text.drop (32 * c)) := by
  rw [fragmentOctets, List.take_of_length_le (List.length_drop).le]

theorem State.alertTextCell_text (s : State) (text : hold.text ≠ []) (first : Bool) :
    s.alertTextCell i hold first =
      (s.withAlerts
        { s.alerts with
          cursors := s.alerts.cursors.set i
            (if s.alerts.cursors[i].val + 1 < (hold.text.length + 31) / 32 then s.alerts.cursors[i] + 1
              else 0) },
        some (.data
          { number := hold.number, kind := .alert, first := decide (s.alerts.cursors[i].val = 0)
            last := decide ((hold.text.length + 31) / 32 ≤ s.alerts.cursors[i].val + 1), abandon := false
            index := s.alerts.cursors[i].val }
          (padTo 32 (hold.text.drop (32 * s.alerts.cursors[i].val))))) := by
  simp only [State.alertTextCell, textAnswer, if_neg text, fragmentOctets_drop]
  rfl

theorem State.alertTextCell_empty (s : State) (empty : hold.text = []) (first : Bool) :
    s.alertTextCell i hold first =
      (s, if first then
        some (.data
          { number := hold.number, kind := .alert, first := true, last := true, abandon := false
            index := 0 } (List.replicate 32 0)) else none) := by
  have unmoved : s.alerts.cursors.set i s.alerts.cursors[i] = s.alerts.cursors :=
    Vector.set_getElem_self i.isLt
  simp only [State.alertTextCell, textAnswer, if_pos empty]
  rw [unmoved]
  rfl

end Texts

/-! ### The carousel's answer and the fit faults passed before it -/

/-- No event of a list is a fit fault. -/
def NoFitFaults (e : Events) : Prop := ∀ x ∈ e, x.1.index ≠ ReportSource.fitFault.index

theorem NoFitFaults.nil : NoFitFaults [] := List.forall_mem_nil _

theorem NoFitFaults.append {d e : Events} (hd : NoFitFaults d) (he : NoFitFaults e) : NoFitFaults (d ++ e) :=
  List.forall_mem_append.mpr ⟨hd, he⟩

theorem NoFitFaults.single {src : ReportSource} {d : Octets}
    (h : src.index ≠ ReportSource.fitFault.index) : NoFitFaults [(src, d)] :=
  List.forall_mem_singleton.mpr h

section Reads

variable (st : ObjectStore) (o : Fin 128)

theorem ObjectStore.readFor_noFitFaults (key : Nat) : NoFitFaults (st.readFor o key).events := by
  unfold ObjectStore.readFor
  dsimp only
  split
  · exact .nil
  · exact .single (by decide)
  · exact .nil

theorem ObjectStore.faultObject_noFitFaults (key : Nat) : NoFitFaults (st.faultObject o key).2 := by
  unfold ObjectStore.faultObject
  repeat' split
  · exact .single (by decide)
  · exact .nil
  · exact .nil

theorem ObjectStore.fetchGroup_noFitFaults (key : Nat) : NoFitFaults (st.fetchGroup o key).events := by
  unfold ObjectStore.fetchGroup
  dsimp only
  split
  · exact (st.readFor_noFitFaults o key).append (ObjectStore.faultObject_noFitFaults _ o key)
  · exact st.readFor_noFitFaults o key

theorem ObjectStore.fetchFragment_noFitFaults (i : Nat) : NoFitFaults (st.fetchFragment o i).events := by
  unfold ObjectStore.fetchFragment
  dsimp only
  repeat' split
  · exact .nil
  · exact (st.fetchGroup_noFitFaults o _).append (ObjectStore.fetchGroup_noFitFaults _ o _)
  · exact st.fetchGroup_noFitFaults o _

end Reads

section Lanes

variable (l : Lane) (i : Fin 32) (k : ObjectKind) (e : CarouselEntry) (st : ObjectStore)

theorem Lane.complete_noFitFaults (cell : Cell) : NoFitFaults (l.complete i k e st cell).events := by
  have notified : NoFitFaults (if e.notify then [notifyEvent i k e] else []) := by
    split
    · exact .single (by decide)
    · exact .nil
  exact iteInduction (motive := fun answer : LaneAnswer => NoFitFaults answer.events)
    (fun _ => notified.append (.single (by decide))) fun _ => notified

theorem Lane.sent_noFitFaults (declared : Nat) (cell : Cell) :
    NoFitFaults (l.sent i k e declared st cell).events := by
  unfold Lane.sent
  repeat' split
  · exact .nil
  · exact .nil
  · exact l.complete_noFitFaults i k e st cell

theorem Lane.supplyFragment_noFitFaults : NoFitFaults (l.supplyFragment i k st).events := by
  unfold Lane.supplyFragment
  dsimp only
  repeat' split
  · exact .nil
  · exact .nil
  · exact st.fetchFragment_noFitFaults _ _
  · exact (st.fetchFragment_noFitFaults _ _).append (l.sent_noFitFaults i k _ _ _ _)

theorem Lane.answerCell_noFitFaults : NoFitFaults (l.answerCell i k st).events := by
  unfold Lane.answerCell
  repeat' split
  · exact .nil
  · exact .nil
  · exact Lane.supplyFragment_noFitFaults _ i k st

end Lanes

/-- Fit faults and other events leave the same records in either order. -/
theorem State.raiseAll_raiseAll {d e : Events} (hd : OnlyFitFaults d) (he : NoFitFaults e) (s : State) :
    (s.raiseAll d).raiseAll e = (s.raiseAll e).raiseAll d := by
  refine State.raiseAll_comm (f := (·.raiseAll e)) fun x hx u => ?_
  refine (State.raiseAll_comm (f := (·.raise x.1 x.2)) fun y hy v => ?_).symm
  rw [hd x hx]
  exact v.raise_comm (he y hy) _ _

section Carousels

variable (s : State) (i : Fin 32) (first : Bool)

/-- What a carousel answers depends on the lanes and the store only. -/
theorem State.carouselCell_withOutput (o : Output) :
    (s.withOutput o).carouselCell i first =
      ((s.carouselCell i first).1.withOutput o, (s.carouselCell i first).2) := by
  unfold State.carouselCell
  cases answering : s.carousels[i].answering s.store first with
  | none => simp only [State.withOutput_carousels, State.withOutput_store, answering]
  | some k =>
    simp only [State.withOutput_carousels, State.withOutput_store, answering, State.raiseAll_withOutput]
    rfl

theorem State.carouselCell_output : (s.carouselCell i first).1.output = s.output := by
  unfold State.carouselCell
  split
  · rfl
  · exact State.raiseAll_output _ _

theorem State.carouselCell_raiseAll {e : Events} (h : OnlyFitFaults e) :
    (s.raiseAll e).carouselCell i first =
      ((s.carouselCell i first).1.raiseAll e, (s.carouselCell i first).2) := by
  unfold State.carouselCell
  cases answering : s.carousels[i].answering s.store first with
  | none => simp only [State.raiseAll_carousels, State.raiseAll_store, answering]
  | some k =>
    have others := (s.lane i k).answerCell_noFitFaults i k s.store
    have lane : (s.raiseAll e).lane i k = s.lane i k := s.raiseAll_field e (·.lane i k) fun _ _ => rfl
    simp only [State.raiseAll_carousels, State.raiseAll_store, answering, lane]
    rw [← State.raiseAll_raiseAll h others]
    refine Prod.ext (congrArg (State.raiseAll · _) ?_) rfl
    exact State.raiseAll_comm (f := fun u => (u.setLane i k _).withStore _) fun _ _ _ => rfl

/-- What was passed before a cell request could be passed after it (log 21). -/
theorem State.carouselCell_passed {a : Assembly} (h : OnlyFitFaults a.events) :
    (s.passed a).carouselCell i first =
      ((s.carouselCell i first).1.passed a, (s.carouselCell i first).2) := by
  rw [State.passed, State.carouselCell_raiseAll _ _ _ h, State.carouselCell_withOutput, State.passed,
    State.carouselCell_output]

end Carousels

/-- So it could around a request for the alert text, which looks at the alert unit only. -/
theorem State.alertTextCell_passed (s : State) (a : Assembly) (i : Fin 32) (hold : TextHold)
    (first : Bool) :
    (s.passed a).alertTextCell i hold first =
      ((s.alertTextCell i hold first).1.passed a, (s.alertTextCell i hold first).2) := by
  have alerts : (s.passed a).alerts = s.alerts := State.raiseAll_alerts _ _
  simp only [State.alertTextCell, alerts]
  refine Prod.ext ?_ rfl
  exact State.raiseAll_comm (f := fun u => u.withAlerts _) fun _ _ _ => rfl

/-! ### The last run finished (R73) -/

section Completion

variable {s : State} {f : CarriageFrame} {p : Progress}

/-- With no run left, or only one whose data share is placed, every run is placed (log 21). -/
theorem State.reached_placed (work : s.output.work = some (f, p))
    (last : p.runs = [] ∨ ∃ q, p.runs = [q] ∧ p.audioDone = true ∧ p.cellsDone = q.run.share) :
    ∃ q : Progress, q.runs = [] ∧ s.reached = some (s.assemblyOf f q) := by
  rcases last with none_left | ⟨q, runs, done, placed⟩
  · exact ⟨p, none_left, s.reached_of_waits work (.inl none_left)⟩
  · have finished : (s.assemblyOf f p).PassesOne (s.assemblyOf f p).nextRun :=
      Assembly.passesOne_finished (a := s.assemblyOf f p) (r := q) (more := []) runs done placed.ge
    have nothing_left : (s.assemblyOf f p).nextRun.Waits := .inl (congrArg List.tail runs)
    refine ⟨(s.assemblyOf f p).nextRun.progress, congrArg List.tail runs, ?_⟩
    rw [s.reached_eq work, runs]
    exact congrArg some ((finished.pass 1).trans (nothing_left.pass 1))

theorem State.passed_setWork (s : State) (f g : CarriageFrame) (q : Progress) :
    (s.passed (s.assemblyOf f q)).setWork (.complete g)
      = s.withOutput (s.output.setWork (.complete g)) := by
  rw [s.passed_assemblyOf s rfl, State.setWork, State.withOutput_twice, State.withOutput_output,
    Output.setWork_setWork]

end Completion

/-! ### What is passed on the way may be passed first (log 21) -/

section PassedFirst

variable {s : State} {a : Assembly} {r : FrameRun} {more : List FrameRun}

theorem cellRequest_passed (h : s.reached = some a) (runs : a.progress.runs = r :: more)
    (done : a.progress.audioDone = true) (own : r.taken = none) :
    cellRequest (s.passed a) = cellRequest s := by
  obtain ⟨f, p, work⟩ := State.work_of_reached h
  obtain ⟨b, reached, waits, _, faults⟩ := s.reached_spec work
  obtain rfl : a = b := Option.some.inj (h.symm.trans reached)
  rw [cellRequest_own (s.passed_reached work waits) runs done own, cellRequest_own h runs done own,
    State.carouselCell_passed _ _ _ faults, State.passed_passed]
  simp only [Assembly.place, List.append_nil]

theorem alertCellRequest_passed (h : s.reached = some a) (runs : a.progress.runs = r :: more)
    (done : a.progress.audioDone = true) (taken : r.taken ≠ none) :
    alertCellRequest (s.passed a) = alertCellRequest s := by
  obtain ⟨hold, taken⟩ := Option.ne_none_iff_exists'.mp taken
  obtain ⟨f, p, work⟩ := State.work_of_reached h
  obtain ⟨b, reached, waits, _, _⟩ := s.reached_spec work
  obtain rfl : a = b := Option.some.inj (h.symm.trans reached)
  rw [alertCellRequest_taken (s.passed_reached work waits) runs done taken,
    alertCellRequest_taken h runs done taken, State.alertTextCell_passed, State.passed_passed]
  simp only [Assembly.place, List.append_nil]

theorem frameAssemblyComplete_passed (h : s.reached = some a) (placed : a.progress.runs = []) :
    frameAssemblyComplete (s.passed a) = frameAssemblyComplete s := by
  obtain ⟨f, p, work⟩ := State.work_of_reached h
  rw [frameAssemblyComplete_placed (s.passed_reached work (.inl placed)) placed,
    frameAssemblyComplete_placed h placed, State.passed_passed]
  simp only [List.append_nil]

end PassedFirst

end Sys2Proof.Machine

open Sys2Proof Sys2Proof.Machine

/-- Settles O32: each request by the run reached and who answers it, and log 21 by
`State.carouselCell_passed`. -/
theorem dataShareIsFilledAndCompletes : Obligations.DataShareIsFilledAndCompletes := by
  refine ⟨fun s f p on work => ⟨fun q more runs done left => ?_, fun last => ?_⟩,
    fun s a on reached => ⟨fun q more runs done => ?_, fun placed => ?_⟩⟩
  · have reached := s.reached_share work runs done left
    refine ⟨fun own => ?_, fun h c taken cursor text => ?_, fun h taken empty => ?_⟩
    · refine ⟨_, _, rfl, (event_on on).trans ?_⟩
      rw [cellRequest_own reached runs done own]
      exact congrArg (Host.Outcome.next ·.choose)
        (State.passed_assemblyOf s _ (s.carouselCell_output _ _))
    · subst cursor
      refine (event_on on).trans ?_
      rw [alertCellRequest_taken reached runs done taken, State.alertTextCell_text s text]
      rfl
    · refine (event_on on).trans ?_
      rw [alertCellRequest_taken reached runs done taken, State.alertTextCell_empty s empty]
      by_cases first : p.cellsDone = 0
      · simp only [State.assemblyOf, Assembly.place, first, decide_true, if_true]
        rfl
      · simp only [State.assemblyOf, Assembly.place, first, decide_false, Bool.false_eq_true, if_false]
        rfl
  · obtain ⟨q, placed, reached⟩ := s.reached_placed work last
    refine (event_on on).trans ?_
    rw [frameAssemblyComplete_placed reached placed, State.passed_setWork]
    rfl
  · refine ⟨fun own => ?_, fun taken => ?_⟩
    · show event cellRequest s = event cellRequest (s.passed a)
      rw [event_on on, event_on ((s.passed_powered a).trans on), cellRequest_passed reached runs done own]
    · show event alertCellRequest s = event alertCellRequest (s.passed a)
      rw [event_on on, event_on ((s.passed_powered a).trans on),
        alertCellRequest_passed reached runs done taken]
  · show event frameAssemblyComplete s = event frameAssemblyComplete (s.passed a)
    rw [event_on on, event_on ((s.passed_powered a).trans on), frameAssemblyComplete_passed reached placed]

end

section
/-! PROOFS. The frame assembly start, block by block, and the pulls that send a frame (R66, R67, R72). -/

namespace Sys2Proof.Machine

/-! ### The eight slots of a start (R86, R92) -/

theorem carriedAlerts_length (mark : Option Stamp) (alerts : List Alert) :
    (carriedAlerts mark alerts).length ≤ 4 := by
  unfold carriedAlerts
  repeat' split
  · assumption
  · exact List.length_take_le _ _
  · exact List.length_take_le _ _

theorem Announcement.item_length (x : Announcement) : x.item.toList.length ≤ 1 := by
  cases x.item <;> simp

/-- A walk carries no more items than it has slots (R96). -/
theorem rotationWalk_length (items : Rotation) (skip : List ItemKey) (n slots pos : Nat) :
    (rotationWalk items skip n slots pos).1.length ≤ slots := by
  induction n generalizing slots pos with
  | zero => exact Nat.zero_le _
  | succ n ih =>
    cases slots with
    | zero => exact Nat.zero_le _
    | succ r =>
      unfold rotationWalk
      dsimp only
      repeat' split
      · exact Nat.zero_le _
      · exact ih (r + 1) _
      · exact Nat.succ_le_succ (ih r _)

theorem walkFrom_length (items : Rotation) (skip : List ItemKey) (slots cursor : Nat) :
    (walkFrom items skip slots cursor).1.length ≤ slots := by
  unfold walkFrom
  repeat' split
  · exact Nat.zero_le _
  · exact Nat.zero_le _
  · exact rotationWalk_length _ _ _ _ _
  · exact rotationWalk_length _ _ _ _ _

/-- At most 4 alerts, an announcement and 2 fresh items go ahead of the walk, which has the slots left. -/
theorem Directory.chooseSlots_length (d : Directory) (x : Announcement) (alerts : List Alert) :
    (d.chooseSlots x alerts).2.length = 7 := by
  have carried := carriedAlerts_length d.mark alerts
  have announced := x.item_length
  have fresh : ((d.fresh.take 2).filterMap (contentsOf d.rotation)).length ≤ 2 :=
    (List.length_filterMap_le _ _).trans (List.length_take_le _ _)
  have walked := fun slots => walkFrom_length d.rotation (d.fresh.take 2) slots d.cursor
  unfold Directory.chooseSlots
  dsimp only
  simp only [List.length_append, List.length_map, List.length_replicate]
  have := walked (7 - ((carriedAlerts d.mark alerts).length + x.item.toList.length
    + ((d.fresh.take 2).filterMap (contentsOf d.rotation)).length))
  omega

theorem Directory.start_length (d : Directory) (count : BitVec 16) (account : PlanAccount)
    (view : ServiceTable) (ports : Vector Port 8) (alerts : List Alert) :
    (d.start count account view ports alerts).2.1.length = 8 :=
  congrArg Nat.succ (Directory.chooseSlots_length _ _ _)

/-! ### The alerts that take services (R175, R176) -/

theorem betterTaker_mem {l : List Alert} {best : Option Alert} {a x : Alert}
    (h : betterTaker best x = some a) (old : ∀ b, best = some b → b ∈ l) (new : x ∈ l) : a ∈ l := by
  unfold betterTaker at h
  repeat' split at h
  all_goals cases h
  · exact new
  · exact new
  · exact old _ rfl

theorem takerOf_mem {alerts : List Alert} {v : Service} {a : Alert} (h : takerOf alerts v = some a) :
    a ∈ alerts := by
  have chosen : ∀ b, takerOf alerts v = some b → b ∈ alerts :=
    List.foldlRecOn (motive := fun best : Option Alert => ∀ b, best = some b → b ∈ alerts) _ _ nofun
      fun best old x hx b hb => betterTaker_mem hb old (List.mem_of_mem_filter hx)
  exact chosen a h

theorem decidedTaker_mem {alerts : List Alert} {view : ServiceTable} {onAir : Fin 32 → Bool}
    {i : Fin 32} {a : Alert} (h : decidedTaker alerts view onAir i = some a) : a ∈ alerts := by
  unfold decidedTaker at h
  split at h
  · obtain ⟨v, _, taken⟩ := Option.bind_eq_some_iff.mp h
    exact takerOf_mem taken
  · cases h

section Takers

variable (u : AlertUnit) (view : ServiceTable) (onAir : Fin 32 → Bool)

/-- The record of a service on air is that of the alert decided on (R176). -/
theorem AlertUnit.start_taker {i : Fin 32} (h : onAir i = true) :
    (u.start view onAir).1.takers[i] =
      (decidedTaker (u.start view onAir).1.alerts view onAir i).map Alert.stamp := by
  show (Vector.ofFn _)[i] = _
  simp only [Fin.getElem_fin, Vector.getElem_ofFn, Fin.eta, h, if_true]
  rfl

/-- The services that return to OWN: on air, taken before, and no longer (R176). -/
theorem AlertUnit.mem_start_returned {i : Fin 32} :
    i ∈ (u.start view onAir).2 ↔
      onAir i = true ∧ u.takers[i] ≠ none ∧ (u.start view onAir).1.takers[i] = none := by
  have before : u.age.takers = u.takers := rfl
  show i ∈ (List.finRange 32).filter _ ↔ _
  simp only [List.mem_filter, List.mem_finRange, true_and, AlertUnit.returns, Bool.and_eq_true, before,
    Option.isSome_iff_ne_none, Option.isNone_iff_eq_none, and_assoc]
  refine and_congr_right fun on => and_congr_right fun _ => ?_
  rw [u.start_taker view onAir on]
  rfl

end Takers

/-! ### The lanes of services returned to OWN (R138) -/

theorem Carousel.lane_restart (c : Carousel) (k : ObjectKind) :
    c.restart.lane k = (c.lane k).restart := by cases k <;> rfl

theorem Lane.restart_restart (l : Lane) : l.restart.restart = l.restart := by
  unfold Lane.restart
  repeat' split
  all_goals rfl

theorem Carousel.restart_restart (c : Carousel) : c.restart.restart = c.restart := by
  simp only [Carousel.restart, Lane.restart_restart]

/-- A restart of one service after another: each of the services named, once or more. -/
theorem restartLanes_get (cs : Vector Carousel 32) (returned : List (Fin 32)) (i : Fin 32) :
    (restartLanes cs returned)[i] = if i ∈ returned then cs[i].restart else cs[i] := by
  induction returned generalizing cs with
  | nil => rfl
  | cons j rest ih =>
    show (restartLanes (updateAt cs j Carousel.restart) rest)[i] = _
    rw [ih, updateAt_get]
    by_cases same : i = j
    · simp [same, Carousel.restart_restart]
    · simp [same]

/-! ### The parts of a frame assembly start (R72) -/

section Start

variable (s : State)

/-- The alert unit after the start (R174 to R176). -/
def State.startAlerts : AlertUnit := (s.alerts.start s.services s.plan.start.2.1.onAir).1

/-- What the directory unit does at the start (R86). -/
def State.startDirectory : Directory × List SlotItem × Events :=
  s.directory.start (s.output.count + 1) s.plan.start.2.1 s.services s.ports s.startAlerts.alerts

/-- The alert that takes each service in the frame (R175). -/
def State.startTaker : Fin 32 → Option Alert :=
  decidedTaker s.startAlerts.alerts s.services s.plan.start.2.1.onAir

/-- The frame that starts, with no cell placed. -/
def State.nextFrame : CarriageFrame :=
  { resent := false, count := s.output.count + 1, plan := s.plan.start.2.1.number
    slots := s.startDirectory.2.1, cells := [] }

/-- Its progress: every run still to place. -/
def State.nextProgress : Progress :=
  Progress.first (s.plan.start.2.1.entries.map (frameRun s.services s.startTaker))

theorem State.startFrame_buffer : s.startFrame.2 = .assembling s.nextFrame s.nextProgress := rfl

theorem State.startFrame_output :
    s.startFrame.1.output = { s.output with count := s.output.count + 1 } := State.raiseAll_output _ _

theorem State.startFrame_plan : s.startFrame.1.plan = s.plan.start.1 := State.raiseAll_plan _ _

theorem State.startFrame_alerts : s.startFrame.1.alerts = s.startAlerts := State.raiseAll_alerts _ _

theorem State.startFrame_directory : s.startFrame.1.directory = s.startDirectory.1 :=
  State.raiseAll_directory _ _

theorem State.startFrame_carousels :
    s.startFrame.1.carousels
      = restartLanes s.carousels (s.alerts.start s.services s.plan.start.2.1.onAir).2 :=
  State.raiseAll_carousels _ _

theorem State.startFrame_services : s.startFrame.1.services = s.services := State.raiseAll_services _ _

theorem State.startFrame_cues : s.startFrame.1.cues = s.cues := State.raiseAll_cues _ _

theorem State.startFrame_lines : s.startFrame.1.lines = s.lines := State.raiseAll_lines _ _

theorem State.startFrame_templates : s.startFrame.1.templates = s.templates := State.raiseAll_templates _ _

theorem State.startFrame_store : s.startFrame.1.store = s.store := State.raiseAll_store _ _

theorem State.startFrame_pending : s.startFrame.1.pending = s.pending := State.raiseAll_pending _ _

theorem State.startFrame_powered : s.startFrame.1.powered = s.powered := State.raiseAll_powered _ _

/-- Events raised leave in the control unit what they find there alone. -/
theorem State.raiseAll_control {s t : State} (h : s.control = t.control) (e : Events) :
    (s.raiseAll e).control = (t.raiseAll e).control := by
  induction e generalizing s t with
  | nil => exact h
  | cons x rest ih => exact ih (congrArg (Control.raise · x.1 x.2) h)

/-- The events of the plan unit, and then of the directory unit. -/
theorem State.startFrame_control :
    s.startFrame.1.control = (s.raiseAll (s.plan.start.2.2 ++ s.startDirectory.2.2)).control := by
  refine State.raiseAll_control ?_ _
  rfl

theorem State.startFrame_lane (i : Fin 32) (k : ObjectKind) :
    s.startFrame.1.lane i k =
      if s.plan.start.2.1.onAir i = true ∧ s.alerts.takers[i] ≠ none ∧ s.startAlerts.takers[i] = none ∧
          (s.lane i k).phase ≠ .empty then
        { s.lane i k with cursor := 0, done := 0 }
      else s.lane i k := by
  have returned := s.alerts.mem_start_returned s.services s.plan.start.2.1.onAir (i := i)
  rw [State.lane, s.startFrame_carousels, restartLanes_get]
  by_cases back : i ∈ (s.alerts.start s.services s.plan.start.2.1.onAir).2
  · obtain ⟨on, before, now⟩ := returned.mp back
    rw [if_pos back, Carousel.lane_restart]
    show (s.lane i k).restart = _
    by_cases empty : (s.lane i k).phase = .empty
    · rw [if_neg fun h => h.2.2.2 empty, Lane.restart, if_pos empty]
    · rw [if_pos ⟨on, before, now, empty⟩, Lane.restart, if_neg empty]
  · rw [if_neg back, if_neg fun h => back (returned.mpr ⟨h.1, h.2.1, h.2.2.1⟩)]
    rfl

/-- The audio source of a run (R74, R178). -/
theorem audioSource_taken (v : Service) (a : Alert) (kind : v.kind = .audio) :
    audioSource v (some a) = if a.content.stream = none then v.binding else a.content.stream := by
  unfold audioSource
  rw [kind]
  cases stream : a.content.stream <;> simp [stream]

end Start

/-! ### A pull that sends a frame (R66, R67) -/

section Sends

variable (s : State)

/-- The part after a start, with what its two buffers then hold. -/
def State.afterPull (a b : FrameBuffer) : State :=
  s.startFrame.1.withOutput (s.startFrame.1.output.sending a b)

theorem State.afterPull_output (a b : FrameBuffer) :
    (s.afterPull a b).output =
      { s.output with
        state := .running, bufferA := a, bufferB := b, count := s.output.count + 1, link := .sending
        stallTimer := some 360 } :=
  congrArg (Output.sending · a b) s.startFrame_output

theorem State.afterPull_alerts (a b : FrameBuffer) : (s.afterPull a b).alerts = s.startAlerts :=
  s.startFrame_alerts

theorem State.afterPull_directory (a b : FrameBuffer) :
    (s.afterPull a b).directory = s.startDirectory.1 := s.startFrame_directory

/-- The frame that a pull sends from buffer A: the idle frame while WAITING, a COMPLETE frame later. -/
def State.frameInA : CarriageFrame :=
  match s.output.state, s.output.bufferA with
  | .running, .complete g | .stalled, .complete g => g
  | _, _ => idleFrame s.plan.number

theorem State.frameInA_waiting (state : s.output.state = .waiting) :
    s.frameInA = idleFrame s.plan.number := by
  simp only [State.frameInA, state]

theorem State.frameInA_complete {g : CarriageFrame} (state : s.output.state ≠ .waiting)
    (inA : s.output.bufferA = .complete g) : s.frameInA = g := by
  unfold State.frameInA
  rw [inA]
  cases h : s.output.state with
  | waiting => exact absurd h state
  | running => rfl
  | stalled => rfl

theorem State.sendComplete_inA (g : CarriageFrame) :
    s.sendComplete g true = s.afterPull (.lastSent g) s.startFrame.2 := rfl

theorem State.sendComplete_inB (g : CarriageFrame) :
    s.sendComplete g false = s.afterPull s.startFrame.2 (.lastSent g) := rfl

theorem State.firstPull_eq :
    s.firstPull = s.afterPull (.lastSent (idleFrame s.plan.number)) s.startFrame.2 := rfl

end Sends

end Sys2Proof.Machine

open Sys2Proof Sys2Proof.Machine

/-- Settles O29: the start block by block, and each pull by the buffers that it finds. -/
theorem pullsSendAndStartTheNextFrame : Obligations.PullsSendAndStartTheNextFrame := by
  intro s on ready
  have alerts := s.afterPull_alerts (.lastSent s.frameInA) s.startFrame.2
  have output := s.afterPull_output (.lastSent s.frameInA) s.startFrame.2
  refine ⟨s.afterPull (.lastSent s.frameInA) s.startFrame.2, s.nextFrame, s.nextProgress,
    s.plan.start.2.1, s.startTaker, s.startDirectory.2.2, rfl, rfl, rfl, rfl, by rw [output],
    by rw [output], by rw [output], by rw [output], by rw [output], s.startFrame_plan, alerts, ?_,
    s.startFrame_control, fun i k => ?_, s.startFrame_services, s.startFrame_ports, s.startFrame_cues,
    s.startFrame_lines, s.startFrame_templates, s.startFrame_store, s.startFrame_pending,
    s.startFrame_powered.trans on, rfl, rfl, rfl, rfl, Directory.start_length _ _ _ _ _ _, rfl, rfl, rfl,
    fun i a taken => ?_, fun i onAir => ?_, ?_, fun state => ⟨?_, s.startFrame_buffer, ?_⟩,
    fun g state link inA => ⟨?_, ?_, s.startFrame_buffer⟩,
    fun g h state link inA inB => ⟨s.sendComplete g false, ?_, rfl, rfl, rfl⟩⟩
  · rw [alerts, s.afterPull_directory]
    rfl
  · simp only [alerts]
    exact s.startFrame_lane i k
  · rw [alerts]
    exact decidedTaker_mem taken
  · rw [alerts]
    exact (s.alerts.start_taker s.services _ onAir).symm
  · refine List.map_congr_left fun e _ => ?_
    refine congrArg (FrameRun.mk e.service e.run · _) (congrArg (Option.bind _) (funext fun v => ?_))
    cases kind : v.kind with
    | data => simp only [audioSource, kind]
    | audio =>
      cases taken : s.startTaker e.service with
      | none => simp only [audioSource, kind, Option.bind_none, Option.none_or]
      | some a => exact audioSource_taken v a kind
  · refine (event_on on).trans ?_
    rw [framePull_first ready state, s.firstPull_eq, s.frameInA_waiting state]
  · show FrameBuffer.lastSent s.frameInA = _
    rw [s.frameInA_waiting state]
    rfl
  · refine (event_on on).trans ?_
    rw [framePull_answers ready state link, State.answerPull_completeA inA, s.sendComplete_inA,
      s.frameInA_complete state inA]
  · show FrameBuffer.lastSent s.frameInA = _
    rw [s.frameInA_complete state inA]
  · refine (event_on on).trans ?_
    rw [framePull_answers ready state link, State.answerPull_completeB inA inB]

end

section
/-! PROOFS. The directory unit at a start: the marks, the eight slots and the rotation walk (R86 to R96). -/

namespace Sys2Proof.Machine

/-! ### New, changed and marked items (R91) -/

/-- An item is on a list exactly when the list has contents for it. -/
theorem contentsOf_isSome (rotation : Rotation) (k : ItemKey) :
    (contentsOf rotation k).isSome = decide (k ∈ rotation.map Prod.fst) := by
  rw [Bool.eq_iff_iff]
  simp [contentsOf]

theorem changedItem_iff (last : Rotation) (x : ItemKey × SlotItem) :
    changedItem last x = true ↔ ∃ c, contentsOf last x.1 = some c ∧ c ≠ x.2 := by
  simp [changedItem, Option.any_eq_true]

theorem markedItem_iff (last : Rotation) (switched restarted : Bool) (x : ItemKey × SlotItem) :
    markedItem last switched restarted x = true ↔
      contentsOf last x.1 = none ∨ changedItem last x = true ∨
        (switched = true ∧ x.1.kind = .service) ∨ restarted = true := by
  simp [markedItem, or_assoc]

/-! ### The counter of superseded items (R91) -/

theorem satInc_toNat (c : BitVec 16) : (satInc c).toNat = min 65535 (c.toNat + 1) := by
  unfold satInc
  split
  · next full => subst full; rfl
  · next room =>
    have : c.toNat ≠ 65535 := fun h => room (BitVec.eq_of_toNat_eq h)
    bv_omega

/-- Counting each item of a list adds its length, up to the counter's maximum. -/
theorem foldl_satInc_toNat {α : Type} (l : List α) (c : BitVec 16) :
    (l.foldl (fun n _ => satInc n) c).toNat = min 65535 (c.toNat + l.length) := by
  induction l generalizing c with
  | nil => have := c.isLt; simp only [List.foldl_nil, List.length_nil]; omega
  | cons x l ih => rw [List.foldl_cons, ih, satInc_toNat, List.length_cons]; omega

/-! ### The rebuild (R90, R91) -/

/-- What stays of the fresh queue when the list is rebuilt. -/
def Directory.keptFresh (d : Directory) (rotation : Rotation) : List ItemKey :=
  d.fresh.filter fun k => decide (k ∈ rotation.map Prod.fst)

/-- The fresh queue from which a start chooses. -/
def Directory.freshQueue (d : Directory) (rotation : Rotation) (switched : Bool) : List ItemKey :=
  d.keptFresh rotation
    ++ ((rotation.filter (markedItem d.rotation switched d.restarted)).map Prod.fst).filter
      fun k => decide (k ∉ d.keptFresh rotation)

/-- The items superseded by the rebuild. -/
def Directory.supersededKeys (d : Directory) (rotation : Rotation) : List ItemKey :=
  (rotation.filter fun x => changedItem d.rotation x && decide (x.1 ∈ d.keptFresh rotation)).map Prod.fst

theorem Directory.rebuild_eq (d : Directory) (rotation : Rotation) (switched : Bool) :
    d.rebuild rotation switched =
      ({ d with
          rotation := rotation
          fresh := d.freshQueue rotation switched
          restarted := false
          superseded := (d.supersededKeys rotation).foldl (fun n _ => satInc n) d.superseded },
        (d.supersededKeys rotation).map fun k =>
          (.directorySuperseded, [k.kind.code, octet k.service.val])) := by
  simp only [Directory.rebuild, markAll, contentsOf_isSome, List.contains_eq_mem, ← decide_not]
  rfl

/-- Every item of the queue is on the rebuilt list. -/
theorem Directory.freshQueue_onList (d : Directory) (rotation : Rotation) (switched : Bool) :
    ∀ k ∈ d.freshQueue rotation switched, (contentsOf rotation k).isSome = true := by
  intro k hk
  rw [contentsOf_isSome, decide_eq_true_iff]
  rcases List.mem_append.mp hk with kept | joined
  · exact of_decide_eq_true (List.mem_filter.mp kept).2
  · exact List.map_subset _ (List.filter_subset_self _) (List.mem_filter.mp joined).1

/-! ### The choice of slots (R92 to R95) -/

/-- R93 case by case: all alerts if there are at most 4, else 4 of them, those after the mark first. -/
theorem carriedAlerts_eq {mark : Option Stamp} {alerts carried : List Alert}
    (all : alerts.length ≤ 4 → carried = alerts)
    (unmarked : 4 < alerts.length → mark = none → carried = alerts.take 4)
    (after : ∀ m, 4 < alerts.length → mark = some m →
      carried = ((alerts.filter fun a => decide (m < a.stamp))
        ++ alerts.filter fun a => decide (a.stamp ≤ m)).take 4) :
    carriedAlerts mark alerts = carried := by
  unfold carriedAlerts
  split
  · next few => exact (all few).symm
  · next many =>
    have many := Nat.lt_of_not_le many
    cases mark with
    | none => exact (unmarked many rfl).symm
    | some m => simp only [after m many rfl, ← decide_not, BitVec.not_lt]

/-- The first two items of a queue that is on the list are carried as two items, if it has so many. -/
theorem filterMap_contentsOf_length {rotation : Rotation} {queue : List ItemKey}
    (onList : ∀ k ∈ queue, (contentsOf rotation k).isSome = true) :
    ((queue.take 2).filterMap (contentsOf rotation)).length = min 2 queue.length := by
  rw [List.filterMap_length_eq_length.mpr fun k hk => onList k (List.mem_of_mem_take hk), List.length_take]

/-- At most 4 alerts, 1 announcement and 2 fresh items, and a walk with the slots left, fill at most 7. -/
theorem slots_le_seven {alerts announced fresh walked : Nat} (h4 : alerts ≤ 4) (h1 : announced ≤ 1)
    (h2 : fresh ≤ 2) (left : walked ≤ 7 - (alerts + announced + fresh)) :
    alerts + announced + fresh + walked ≤ 7 := by
  omega

/-- The choice with each part of it named. -/
theorem Directory.chooseSlots_eq (d : Directory) (x : Announcement) (alerts : List Alert)
    {carried : List Alert} {announced fresh : List SlotItem} {walked : Rotation × Nat} {slots : Nat}
    (hcarried : carriedAlerts d.mark alerts = carried) (hannounced : announced = x.item.toList)
    (hfresh : fresh = (d.fresh.take 2).filterMap (contentsOf d.rotation))
    (hslots : slots = 7 - (carried.length + announced.length + fresh.length))
    (hwalked : walked = walkFrom d.rotation (d.fresh.take 2) slots d.cursor) :
    d.chooseSlots x alerts =
      ({ d with
          fresh := d.fresh.filter fun k => decide (k ∉ d.fresh.take 2 ∧ k ∉ walked.1.map Prod.fst)
          cursor := walked.2
          mark := markAfter d.mark carried },
        carried.map Alert.item ++ announced ++ fresh ++ walked.1.map Prod.snd
          ++ List.replicate (slots - walked.1.length) .empty) := by
  subst hcarried hannounced hfresh hslots hwalked
  simp only [Directory.chooseSlots, List.length_append, List.length_map, List.contains_eq_mem,
    List.mem_append, ← decide_not, not_or, Nat.sub_sub]

/-- A start is the rebuild and then the choice. -/
theorem Directory.start_eq (d : Directory) {account : PlanAccount} {view : ServiceTable}
    {ports : Vector Port 8} {alerts carried : List Alert} {rotation : Rotation}
    (count : BitVec 16) (hrotation : rotation = rotationOf ports view account)
    (hcarried : carriedAlerts d.mark alerts = carried)
    {queue : List ItemKey} (hqueue : queue = d.freshQueue rotation account.switched)
    {announced fresh : List SlotItem} (hannounced : announced = account.announcement.item.toList)
    (hfresh : fresh = (queue.take 2).filterMap (contentsOf rotation)) {slots : Nat}
    (hslots : slots = 7 - (carried.length + announced.length + fresh.length))
    {walked : Rotation × Nat} (hwalked : walked = walkFrom rotation (queue.take 2) slots d.cursor) :
    d.start count account view ports alerts =
      ({ rotation := rotation
         fresh := queue.filter fun k => decide (k ∉ queue.take 2 ∧ k ∉ walked.1.map Prod.fst)
         cursor := walked.2
         mark := markAfter d.mark carried
         restarted := false
         superseded := (d.supersededKeys rotation).foldl (fun n _ => satInc n) d.superseded },
        frameEntry count account alerts
          :: (carried.map Alert.item ++ announced ++ fresh ++ walked.1.map Prod.snd
            ++ List.replicate (slots - walked.1.length) .empty),
        (d.supersededKeys rotation).map fun k =>
          (.directorySuperseded, [k.kind.code, octet k.service.val])) := by
  subst hqueue hrotation
  simp only [Directory.start, d.rebuild_eq]
  rw [Directory.chooseSlots_eq (hslots := hslots)]
  exacts [hcarried, hannounced, hfresh, hwalked]

/-! ### The walk (R96) -/

/-- The items that a walk from a position carries of the first m that it examines. -/
def walkItems (items : Rotation) (skip : List ItemKey) (pos m : Nat) : Rotation :=
  ((List.range m).filterMap fun j => items[(pos + j) % items.length]?).filter
    fun x => decide (x.1 ∉ skip)

@[simp] theorem walkItems_zero (items : Rotation) (skip : List ItemKey) (pos : Nat) :
    walkItems items skip pos 0 = [] := rfl

/-- A walk examines the item at its position, and then walks on from the next, wrapping. -/
theorem walkItems_succ {items : Rotation} (skip : List ItemKey) {pos : Nat} (h : pos < items.length)
    (m : Nat) :
    walkItems items skip pos (m + 1) =
      (if items[pos].1 ∈ skip then [] else [items[pos]])
        ++ walkItems items skip ((pos + 1) % items.length) m := by
  have onward : (fun j => items[(pos + (j + 1)) % items.length]?) =
      fun j => items[((pos + 1) % items.length + j) % items.length]? :=
    funext fun j => by rw [Nat.mod_add_mod, Nat.add_assoc, Nat.add_comm j]
  have here : items[(pos + 0) % items.length]? = some items[pos] := by
    rw [Nat.add_zero, Nat.mod_eq_of_lt h, List.getElem?_eq_getElem h]
  simp only [walkItems, List.range_succ_eq_map, List.filterMap_cons, here, List.filterMap_map,
    Function.comp_def, Nat.succ_eq_add_one, onward, List.filter_cons, decide_eq_true_eq]
  by_cases fresh : items[pos].1 ∈ skip
  · rw [if_pos fresh, if_neg (not_not_intro fresh), List.nil_append]
  · rw [if_neg fresh, if_pos fresh, List.singleton_append]

/-- A walk of at most k items, with r slots, has examined n of them at its end. -/
structure WalkEnds (items : Rotation) (skip : List ItemKey) (k r pos n : Nat) : Prop where
  result : rotationWalk items skip k r pos = (walkItems items skip pos n, (pos + n) % items.length)
  bound : n ≤ k
  ends : n = k ∨ (walkItems items skip pos n).length = r
  noEarlier : ∀ m, m < n → (walkItems items skip pos m).length < r

theorem rotationWalk_noSlots (items : Rotation) (skip : List ItemKey) (k pos : Nat) :
    rotationWalk items skip k 0 pos = ([], pos) := by
  cases k <;> rfl

/-- A walk that has nothing left to examine, or no slot left, has ended. -/
theorem walkEnds_zero (items : Rotation) (skip : List ItemKey) {k r pos : Nat} (h : pos < items.length)
    (ended : k = 0 ∨ r = 0) : WalkEnds items skip k r pos 0 where
  result := by
    rw [Nat.add_zero, Nat.mod_eq_of_lt h]
    rcases ended with rfl | rfl
    · rfl
    · exact rotationWalk_noSlots items skip k pos
  bound := Nat.zero_le _
  ends := ended.imp Eq.symm Eq.symm
  noEarlier := fun _ hm => absurd hm (Nat.not_lt_zero _)

section Examine

variable {items : Rotation} {skip : List ItemKey} {k r pos n : Nat}

/-- An item carried as fresh is passed over, and its slot is left for the others. -/
theorem WalkEnds.pass (h : pos < items.length) (fresh : items[pos].1 ∈ skip)
    (rest : WalkEnds items skip k (r + 1) ((pos + 1) % items.length) n) :
    WalkEnds items skip (k + 1) (r + 1) pos (n + 1) where
  result := by
    simp only [rotationWalk, List.getElem?_eq_getElem h, List.contains_eq_mem, fresh, decide_true,
      if_true, rest.result, walkItems_succ skip h, List.nil_append, Nat.mod_add_mod, Nat.add_right_comm pos 1,
      Nat.add_assoc]
  bound := Nat.succ_le_succ rest.bound
  ends := by
    rw [walkItems_succ skip h, if_pos fresh]
    exact rest.ends.imp_left (congrArg _)
  noEarlier
    | 0, _ => Nat.succ_pos r
    | m + 1, hm => by
      rw [walkItems_succ skip h, if_pos fresh]
      exact rest.noEarlier m (Nat.lt_of_succ_lt_succ hm)

/-- Any other item is carried, in one of the slots. -/
theorem WalkEnds.carry (h : pos < items.length) (other : items[pos].1 ∉ skip)
    (rest : WalkEnds items skip k r ((pos + 1) % items.length) n) :
    WalkEnds items skip (k + 1) (r + 1) pos (n + 1) where
  result := by
    simp only [rotationWalk, List.getElem?_eq_getElem h, List.contains_eq_mem, other, decide_false,
      Bool.false_eq_true, if_false, rest.result, walkItems_succ skip h, List.singleton_append,
      Nat.mod_add_mod, Nat.add_assoc, Nat.add_comm 1]
  bound := Nat.succ_le_succ rest.bound
  ends := by
    rw [walkItems_succ skip h, if_neg other]
    exact rest.ends.imp (congrArg _) (congrArg _)
  noEarlier
    | 0, _ => Nat.succ_pos r
    | m + 1, hm => by
      rw [walkItems_succ skip h, if_neg other]
      exact Nat.succ_lt_succ (rest.noEarlier m (Nat.lt_of_succ_lt_succ hm))

end Examine

theorem rotationWalk_ends (items : Rotation) (skip : List ItemKey) (k r pos : Nat) (h : pos < items.length) :
    ∃ n, WalkEnds items skip k r pos n := by
  induction k generalizing r pos with
  | zero => exact ⟨0, walkEnds_zero items skip h (.inl rfl)⟩
  | succ k ih =>
    have wraps : (pos + 1) % items.length < items.length := Nat.mod_lt _ (Nat.zero_lt_of_lt h)
    cases r with
    | zero => exact ⟨0, walkEnds_zero items skip h (.inr rfl)⟩
    | succ r =>
      by_cases fresh : items[pos].1 ∈ skip
      · obtain ⟨n, rest⟩ := ih (r + 1) _ wraps
        exact ⟨n + 1, rest.pass h fresh⟩
      · obtain ⟨n, rest⟩ := ih r _ wraps
        exact ⟨n + 1, rest.carry h fresh⟩

theorem walkFrom_noSlots (items : Rotation) (skip : List ItemKey) (cursor : Nat) :
    walkFrom items skip 0 cursor = ([], cursor) := rfl

theorem walkFrom_nil (skip : List ItemKey) {slots : Nat} (left : 0 < slots) (cursor : Nat) :
    walkFrom [] skip slots cursor = ([], 0) := by
  rw [walkFrom, if_neg left.ne', if_pos rfl]

theorem walkFrom_walks {items : Rotation} (skip : List ItemKey) {slots : Nat} (listed : items ≠ [])
    (left : 0 < slots) (cursor : Nat) :
    walkFrom items skip slots cursor =
      rotationWalk items skip items.length slots (if items.length ≤ cursor then 0 else cursor) := by
  rw [walkFrom, if_neg left.ne', if_neg listed]

end Sys2Proof.Machine

open Sys2Proof Sys2Proof.Machine

/-- Settles O53: the rebuild and the choice of slots part by part, and the walk by induction on the number
of items it may still examine. -/
theorem directoryFillsEightSlots : Obligations.DirectoryFillsEightSlots := by
  refine ⟨?start, ?walk, fun rotation fresh slots cursor =>
    ⟨fun left => walkFrom_nil fresh left cursor, walkFrom_noSlots rotation fresh cursor⟩⟩
  case start =>
    intro d count account view ports alerts carried rotation changed marked kept queue superseded
      hrotation hchanged hmarked hkept hqueue hsuperseded all unmarked after
    obtain rfl : changed = changedItem d.rotation := funext fun x =>
      Bool.eq_iff_iff.mpr ((hchanged x).trans (changedItem_iff d.rotation x).symm)
    obtain rfl : marked = markedItem d.rotation account.switched d.restarted := funext fun x =>
      Bool.eq_iff_iff.mpr ((hmarked x).trans (markedItem_iff _ _ _ x).symm)
    obtain rfl : kept = d.keptFresh rotation := hkept
    obtain rfl : queue = d.freshQueue rotation account.switched := hqueue
    obtain rfl : superseded = d.supersededKeys rotation := hsuperseded
    have carries := carriedAlerts_eq all unmarked after
    have twoFresh := filterMap_contentsOf_length (d.freshQueue_onList rotation account.switched)
    have atMostFour : carried.length ≤ 4 := carries ▸ carriedAlerts_length d.mark alerts
    exact ⟨_, _, _, _, _, rfl, rfl, twoFresh, rfl, rfl,
      d.start_eq count hrotation carries rfl rfl rfl rfl rfl,
      slots_le_seven atMostFour account.announcement.item_length (twoFresh.trans_le (Nat.min_le_left _ _))
        (walkFrom_length _ _ _ _),
      rfl, rfl, rfl, rfl, foldl_satInc_toNat _ _⟩
  case walk =>
    intro rotation fresh slots cursor start listed left hstart
    have inside : start < rotation.length := by
      have := List.length_pos_of_ne_nil listed
      split at hstart <;> omega
    obtain ⟨n, walk⟩ := rotationWalk_ends rotation fresh rotation.length slots start inside
    exact ⟨n, walkItems rotation fresh start, fun _ => rfl,
      by rw [walkFrom_walks fresh listed left, ← hstart, walk.result], walk.bound, walk.ends, walk.noEarlier⟩

end

section
/-! PROOFS. The laws of pages, objects and references as conditions on the object store, and the operations
on the store that keep them (R101 to R109). -/

namespace Sys2Proof.Machine

/-! ### The laws as conditions on the store -/

/-- R103, R104, R106 for one object. -/
structure StoredObject.Sound (x : StoredObject) : Prop where
  least : 1 ≤ x.declared
  limit : x.declared ≤ x.kind.limit
  pages : x.pages.length = pagesFor x.declared
  loaded : x.loaded ≤ x.declared
  tail : if x.state = .loading then x.tail.length = x.loaded % 16
    else x.tail = [] ∧ x.loaded = x.declared

/-- R103, R104, R106 for the table, and no bit marked twice (log 10). -/
structure ObjectStore.Sound (st : ObjectStore) : Prop where
  objects : ∀ (o : Fin 128) (x : StoredObject), st.objects[o] = some x → x.Sound
  marks : st.differing.Nodup

theorem objectLaw_iff (s : State) : ObjectLaw s ↔ s.store.Sound := by
  constructor
  · rintro ⟨sized, tails, marks⟩
    refine ⟨fun o x held => ?_, marks⟩
    obtain ⟨least, limit, pages, loaded⟩ := sized o x held
    exact ⟨least, limit, pages, loaded, tails o x held⟩
  · rintro ⟨objects, marks⟩
    refine ⟨fun o x held => ?_, fun o x held => (objects o x held).tail, marks⟩
    exact ⟨(objects o x held).least, (objects o x held).limit, (objects o x held).pages,
      (objects o x held).loaded⟩

/-- R102: the pool in order, and each page in one place. -/
structure ObjectStore.Paged (st : ObjectStore) : Prop where
  pool : st.free.Pairwise (· < ·)
  whole : (st.free ++ (List.finRange 128).flatMap st.pagesOf).Perm (List.range 1024)

theorem pageLaw_iff (s : State) : PageLaw s ↔ s.store.Paged :=
  ⟨fun h => ⟨h.pool, h.whole⟩, fun h => ⟨h.pool, h.whole⟩⟩

/-- R109, R121: what the store's references say of the entries in use. -/
structure ObjectStore.Referenced (st : ObjectStore) (entries : List CarouselEntry) : Prop where
  ids : (entries.map CarouselEntry.id).Nodup
  counts : ∀ o : Fin 128, st.referencesTo o = entries.countP fun e => decide (e.object = o)
  named : ∀ e ∈ entries, ∃ x, st.objects[e.object] = some x ∧ x.state ≠ .loading

theorem referenceLaw_iff (s : State) :
    ReferenceLaw s ↔ s.store.Referenced (entriesInUse s.carousels) :=
  ⟨fun h => ⟨h.ids, h.counts, h.named⟩, fun h => ⟨h.ids, h.counts, h.named⟩⟩

/-- From one store to the other the page memory, the pages and the objects keep their laws. -/
structure ObjectStore.Keeps (st u : ObjectStore) : Prop where
  memory : Memory.wf st.memory = true → Memory.wf u.memory = true
  pages : st.Paged → u.Paged
  objects : st.Sound → u.Sound

/-- And the references keep theirs, for any entries in use. -/
structure ObjectStore.KeepsAll (st u : ObjectStore) : Prop extends st.Keeps u where
  references : ∀ entries, st.Referenced entries → u.Referenced entries

section Keeps

variable {st u v : ObjectStore}

theorem ObjectStore.Keeps.refl (st : ObjectStore) : st.Keeps st := ⟨id, id, id⟩

theorem ObjectStore.Keeps.trans (h : st.Keeps u) (k : u.Keeps v) : st.Keeps v :=
  ⟨k.memory ∘ h.memory, k.pages ∘ h.pages, k.objects ∘ h.objects⟩

theorem ObjectStore.KeepsAll.refl (st : ObjectStore) : st.KeepsAll st := ⟨.refl st, fun _ => id⟩

theorem ObjectStore.KeepsAll.trans (h : st.KeepsAll u) (k : u.KeepsAll v) : st.KeepsAll v :=
  ⟨h.toKeeps.trans k.toKeeps, fun entries => k.references entries ∘ h.references entries⟩

/-- Operations done one after the other keep the laws if each of them does. -/
theorem ObjectStore.Keeps.foldl {α : Type} {f : ObjectStore → α → ObjectStore}
    (h : ∀ st x, ObjectStore.Keeps st (f st x)) (l : List α) (st : ObjectStore) :
    st.Keeps (l.foldl f st) := by
  induction l generalizing st with
  | nil => exact .refl st
  | cons x rest ih => exact (h st x).trans (ih _)

theorem ObjectStore.KeepsAll.foldl {α : Type} {f : ObjectStore → α → ObjectStore}
    (h : ∀ st x, ObjectStore.KeepsAll st (f st x)) (l : List α) (st : ObjectStore) :
    st.KeepsAll (l.foldl f st) := by
  induction l generalizing st with
  | nil => exact .refl st
  | cons x rest ih => exact (h st x).trans (ih _)

/-! ### The contents of the memory (R101) -/

/-- The same objects and pool over changed contents. -/
theorem ObjectStore.KeepsAll.of_contents (objects : u.objects = st.objects) (free : u.free = st.free)
    (memory : Memory.wf st.memory = true → Memory.wf u.memory = true)
    (marks : st.differing.Nodup → u.differing.Nodup) : st.KeepsAll u := by
  have pagesOf : u.pagesOf = st.pagesOf := by funext o; rw [ObjectStore.pagesOf, objects]; rfl
  have references : u.referencesTo = st.referencesTo := by
    funext o; rw [ObjectStore.referencesTo, objects]; rfl
  refine ⟨⟨memory, fun ⟨pool, whole⟩ => ⟨free ▸ pool, ?_⟩, fun ⟨sound, once⟩ => ⟨?_, marks once⟩⟩,
    fun entries ⟨ids, counts, named⟩ => ⟨ids, ?_, ?_⟩⟩
  · rw [free, pagesOf]; exact whole
  · rw [objects]; exact sound
  · rw [references]; exact counts
  · rw [objects]; exact named

theorem ObjectStore.writeGroup_keeps (st : ObjectStore) (key : Nat) (b : Octets) :
    st.KeepsAll (st.writeGroup key b) :=
  .of_contents rfl rfl (st.writeGroup_wf · key b) (List.Nodup.filter _)

theorem ObjectStore.writeGroups_keeps (pages : List Nat) (st : ObjectStore) (g : Nat) (b : Octets)
    (n : Nat) : st.KeepsAll (st.writeGroups pages g b n) := by
  induction n generalizing st g b with
  | zero => exact .refl st
  | succ n ih => exact (st.writeGroup_keeps _ _).trans (ih _ _ _)

theorem ObjectStore.flipBit_keeps (key : Nat) (st : ObjectStore) (bit : Nat) :
    st.KeepsAll (st.flipBit key bit) := by
  refine .of_contents rfl rfl (st.flipBit_wf · key bit) fun once => ?_
  unfold ObjectStore.flipBit
  dsimp only
  split
  · exact once.erase _
  · rename_i new
    exact List.nodup_cons.mpr ⟨new, once⟩

theorem ObjectStore.clearCounts_keeps (st : ObjectStore) : st.KeepsAll st.clearCounts :=
  .of_contents rfl rfl id id

/-! ### One object changed (R103) -/

theorem ObjectStore.setObject_objects (st : ObjectStore) (o p : Fin 128) (x : Option StoredObject) :
    (st.setObject o x).objects[p] = if p = o then x else st.objects[p] := set_get st.objects o p x

theorem ObjectStore.pagesOf_some {o : Fin 128} {x : StoredObject} (h : st.objects[o] = some x) :
    st.pagesOf o = x.pages := by rw [ObjectStore.pagesOf, h]

theorem ObjectStore.pagesOf_none {o : Fin 128} (h : st.objects[o] = none) : st.pagesOf o = [] := by
  rw [ObjectStore.pagesOf, h]

theorem ObjectStore.referencesTo_some {o : Fin 128} {x : StoredObject} (h : st.objects[o] = some x) :
    st.referencesTo o = x.references := by rw [ObjectStore.referencesTo, h]

theorem ObjectStore.referencesTo_none {o : Fin 128} (h : st.objects[o] = none) :
    st.referencesTo o = 0 := by rw [ObjectStore.referencesTo, h]

theorem ObjectStore.pagesOf_congr {o : Fin 128} (h : u.objects[o] = st.objects[o]) :
    u.pagesOf o = st.pagesOf o := by rw [ObjectStore.pagesOf, h]; rfl

theorem ObjectStore.referencesTo_congr {o : Fin 128} (h : u.objects[o] = st.objects[o]) :
    u.referencesTo o = st.referencesTo o := by rw [ObjectStore.referencesTo, h]; rfl

/-- The table and the contents stay sound when one object becomes another sound one. -/
theorem ObjectStore.Sound.set (h : st.Sound) {o : Fin 128} {y : Option StoredObject}
    (objects : ∀ p : Fin 128, u.objects[p] = if p = o then y else st.objects[p])
    (marks : u.differing.Nodup) (sound : ∀ x, y = some x → x.Sound) : u.Sound := by
  refine ⟨fun p x held => ?_, marks⟩
  rw [objects] at held
  split at held
  · exact sound x held
  · exact h.objects p x held

section SetObject

variable {o : Fin 128} {x y : StoredObject}

/-- An object changed that keeps its pages. -/
theorem ObjectStore.setObject_keeps (held : st.objects[o] = some x) (pages : y.pages = x.pages)
    (sound : x.Sound → y.Sound) : st.Keeps (st.setObject o (some y)) := by
  have pagesOf : (st.setObject o (some y)).pagesOf = st.pagesOf := by
    funext p
    by_cases same : p = o
    · subst same
      rw [ObjectStore.pagesOf_some held, ← pages]
      exact ObjectStore.pagesOf_some (by rw [ObjectStore.setObject_objects, if_pos rfl])
    · exact ObjectStore.pagesOf_congr (by rw [ObjectStore.setObject_objects, if_neg same])
  refine ⟨id, fun ⟨pool, whole⟩ => ⟨pool, by rw [pagesOf]; exact whole⟩, fun law => ?_⟩
  refine law.set (st.setObject_objects o · _) law.marks fun z hz => ?_
  obtain rfl := Option.some.inj hz
  exact sound (law.objects o x held)

/-- An object changed that also keeps its references, and is not loaded anew. -/
theorem ObjectStore.setObject_keepsAll (held : st.objects[o] = some x) (pages : y.pages = x.pages)
    (sound : x.Sound → y.Sound) (references : y.references = x.references)
    (state : x.state ≠ .loading → y.state ≠ .loading) : st.KeepsAll (st.setObject o (some y)) := by
  refine ⟨st.setObject_keeps held pages sound, fun entries law => ⟨law.ids, fun p => ?_, fun e he => ?_⟩⟩
  · rw [← law.counts p]
    by_cases same : p = o
    · subst same
      rw [ObjectStore.referencesTo_some held, ← references]
      exact ObjectStore.referencesTo_some (by rw [ObjectStore.setObject_objects, if_pos rfl])
    · exact ObjectStore.referencesTo_congr (by rw [ObjectStore.setObject_objects, if_neg same])
  · obtain ⟨z, hz, loaded⟩ := law.named e he
    rw [ObjectStore.setObject_objects]
    split
    · rename_i same
      subst same
      obtain rfl := Option.some.inj (held.symm.trans hz)
      exact ⟨y, rfl, state loaded⟩
    · exact ⟨z, hz, loaded⟩

end SetObject

end Keeps

/-! ### Groups read for a reader (R111, R112, R114) -/

theorem ObjectStore.readFor_keeps (st : ObjectStore) (o : Fin 128) (key : Nat) :
    st.KeepsAll (st.readFor o key).store := by
  unfold ObjectStore.readFor
  dsimp only
  split
  · exact .refl st
  · exact (st.writeGroup_keeps key _).trans (.of_contents rfl rfl id id)
  · exact .of_contents rfl rfl id id

theorem ObjectStore.faultObject_keeps (st : ObjectStore) (o : Fin 128) (key : Nat) :
    st.KeepsAll (st.faultObject o key).1 := by
  unfold ObjectStore.faultObject
  split
  · rename_i x held
    split
    · rename_i ready
      refine ObjectStore.setObject_keepsAll held rfl (fun sound => ?_) rfl nofun
      exact { sound with tail := by simpa [ready] using sound.tail }
    · exact .refl st
  · exact .refl st

theorem ObjectStore.fetchGroup_keeps (st : ObjectStore) (o : Fin 128) (key : Nat) :
    st.KeepsAll (st.fetchGroup o key).store := by
  unfold ObjectStore.fetchGroup
  dsimp only
  split
  · exact (st.readFor_keeps o key).trans (ObjectStore.faultObject_keeps _ o key)
  · exact st.readFor_keeps o key

theorem ObjectStore.fetchFragment_keeps (st : ObjectStore) (o : Fin 128) (i : Nat) :
    st.KeepsAll (st.fetchFragment o i).store := by
  unfold ObjectStore.fetchFragment
  dsimp only
  repeat' split
  · exact .refl st
  · exact (st.fetchGroup_keeps o _).trans (ObjectStore.fetchGroup_keeps _ o _)
  · exact st.fetchGroup_keeps o _

theorem ReadPass.foldl_keeps (o : Fin 128) (pages : List Nat) (groups : List Nat) (p : ReadPass) :
    p.store.KeepsAll (groups.foldl (ReadPass.step o pages) p).store := by
  induction groups generalizing p with
  | nil => exact .refl _
  | cons g rest ih => exact (p.store.readFor_keeps o _).trans (ih (p.step o pages g))

/-! ### Loading and closing (R105 to R107) -/

section Loading

variable {st : ObjectStore} {o : Fin 128} {x : StoredObject}

theorem ObjectStore.writeGroups_objects (pages : List Nat) (st : ObjectStore) (g : Nat) (b : Octets)
    (n : Nat) : (st.writeGroups pages g b n).objects = st.objects := by
  induction n generalizing st g b with
  | zero => rfl
  | succ n ih => exact ih _ _ _

theorem ObjectStore.load_keeps (held : st.objects[o] = some x) (loading : x.state = .loading)
    {data : Octets} (inside : x.loaded + data.length ≤ x.declared) : st.KeepsAll (st.load o x data) := by
  refine (ObjectStore.writeGroups_keeps x.pages st _ _ _).trans
    (ObjectStore.setObject_keepsAll (x := x) (by rw [ObjectStore.writeGroups_objects, held]) rfl
      (fun sound => ?_) rfl (absurd loading))
  refine { sound with loaded := inside, tail := ?_ }
  have before := sound.tail
  rw [if_pos loading] at before
  rw [if_pos loading, List.length_drop, List.length_append]
  show _ = (x.loaded + data.length) % 16
  omega

theorem ObjectStore.closeObject_keeps (held : st.objects[o] = some x) (whole : x.declared ≤ x.loaded) :
    st.KeepsAll (st.closeObject o x) := by
  have becomes (u : ObjectStore) (same : u.objects[o] = some x) :
      u.KeepsAll (u.setObject o (some { x with state := .ready, tail := [] })) :=
    ObjectStore.setObject_keepsAll same rfl
      (fun sound => { sound with tail := ⟨rfl, Nat.le_antisymm sound.loaded whole⟩ }) rfl nofun
  unfold ObjectStore.closeObject
  dsimp only
  split
  · exact becomes st held
  · exact (st.writeGroup_keeps _ _).trans (becomes _ held)

end Loading

/-! ### Pages taken and returned (R102, R104, R108) -/

section Pages

variable {st u : ObjectStore} {o : Fin 128}

/-- The pages in use, those of one object first. -/
theorem ObjectStore.pages_perm (st : ObjectStore) (o : Fin 128) :
    ((List.finRange 128).flatMap st.pagesOf).Perm
      (st.pagesOf o ++ ((List.finRange 128).erase o).flatMap st.pagesOf) :=
  (List.perm_cons_erase (List.mem_finRange o)).flatMap_right st.pagesOf

/-- Pages that move between the pool and one object stay whole. -/
theorem ObjectStore.whole_of_moved
    (others : ∀ p : Fin 128, p ≠ o → u.objects[p] = st.objects[p])
    (moved : (u.free ++ u.pagesOf o).Perm (st.free ++ st.pagesOf o)) :
    (u.free ++ (List.finRange 128).flatMap u.pagesOf).Perm
      (st.free ++ (List.finRange 128).flatMap st.pagesOf) := by
  have same : ((List.finRange 128).erase o).flatMap u.pagesOf
      = ((List.finRange 128).erase o).flatMap st.pagesOf :=
    List.flatMap_congr fun p hp => ObjectStore.pagesOf_congr
      (others p ((List.nodup_finRange 128).mem_erase_iff.mp hp).1)
  refine ((u.pages_perm o).append_left _).trans (.trans ?_ ((st.pages_perm o).append_left _).symm)
  rw [← List.append_assoc, ← List.append_assoc, same]
  exact moved.append_right _

theorem ObjectStore.freeObject_eq {x : StoredObject} (held : st.objects[o] = some x) :
    st.freeObject o =
      { st with objects := st.objects.set o none, free := x.pages.foldr insertPage st.free } := by
  rw [ObjectStore.freeObject, held]

theorem ObjectStore.freeObject_objects (st : ObjectStore) (o p : Fin 128) :
    (st.freeObject o).objects[p] = if p = o then none else st.objects[p] := by
  unfold ObjectStore.freeObject
  split
  · rename_i empty
    split
    · rename_i same
      rw [same, empty]
    · rfl
  · exact set_get _ _ _ _

/-- A freed object's pages find their places in the pool. -/
theorem ObjectStore.Paged.free (h : st.Paged) (o : Fin 128) : (st.freeObject o).Paged := by
  cases held : st.objects[o] with
  | none =>
    have same : st.freeObject o = st := by rw [ObjectStore.freeObject, held]
    rwa [same]
  | some x =>
    have objects := st.freeObject_objects o
    rw [ObjectStore.freeObject_eq held] at objects ⊢
    have whole := (ObjectStore.whole_of_moved (st := st) (o := o)
      (u := { st with objects := st.objects.set o none, free := x.pages.foldr insertPage st.free })
      (fun p other => (objects p).trans (if_neg other)) (by
        rw [ObjectStore.pagesOf_some held, ObjectStore.pagesOf_none ((objects o).trans (if_pos rfl)),
          List.append_nil]
        exact insertPages_perm _ _)).trans h.whole
    refine ⟨?_, whole⟩
    have once := (List.nodup_append.mp (whole.nodup_iff.mpr List.nodup_range)).1
    exact ((insertPages_ascending (h.pool.imp le_of_lt)).and once).imp
      fun ⟨le, ne⟩ => lt_of_le_of_ne le ne

theorem ObjectStore.freeObject_contents (st : ObjectStore) (o : Fin 128) :
    (st.freeObject o).memory = st.memory ∧ (st.freeObject o).differing = st.differing := by
  unfold ObjectStore.freeObject
  split <;> exact ⟨rfl, rfl⟩

theorem ObjectStore.freeObject_keeps (st : ObjectStore) (o : Fin 128) : st.Keeps (st.freeObject o) := by
  obtain ⟨memory, differing⟩ := st.freeObject_contents o
  exact ⟨fun h => memory ▸ h, fun h => h.free o,
    fun h => h.set (st.freeObject_objects o) (differing ▸ h.marks) nofun⟩

/-- OBJ_OPEN past its checks keeps every law (R104). -/
theorem ObjectStore.openObject_keeps {kind : ObjectKind} {length : Nat} (empty : st.objects[o] = none)
    (least : 1 ≤ length) (limit : length ≤ kind.limit) (room : pagesFor length ≤ st.free.length) :
    st.KeepsAll (st.openObject o kind length) := by
  have objects (p : Fin 128) : (st.openObject o kind length).objects[p] = if p = o then
      some { state := .loading, kind := kind, declared := length, loaded := 0, tail := []
             pages := st.free.take (pagesFor length), references := 0 } else st.objects[p] :=
    set_get _ _ _ _
  refine ⟨⟨Memory.wf_clearPages, fun law => ⟨law.pool.drop, ?whole⟩, fun law => ?sound⟩,
    fun entries law => ⟨law.ids, fun p => ?counts, fun e he => ?named⟩⟩
  case whole =>
    refine (ObjectStore.whole_of_moved (o := o) (fun p other => (objects p).trans (if_neg other))
      ?_).trans law.whole
    rw [ObjectStore.pagesOf_none empty, List.append_nil,
      ObjectStore.pagesOf_some ((objects o).trans (if_pos rfl))]
    exact List.perm_append_comm.trans (by rw [ObjectStore.openObject, List.take_append_drop])
  case sound =>
    refine law.set objects (law.marks.filter _) fun x hx => ?_
    obtain rfl := Option.some.inj hx
    exact ⟨least, limit, by simpa using room, Nat.zero_le _, rfl⟩
  case counts =>
    rw [← law.counts p]
    by_cases same : p = o
    · subst same
      rw [ObjectStore.referencesTo_none empty]
      exact ObjectStore.referencesTo_some ((objects p).trans (if_pos rfl))
    · exact ObjectStore.referencesTo_congr ((objects p).trans (if_neg same))
  case named =>
    obtain ⟨x, held, loaded⟩ := law.named e he
    have other : e.object ≠ o := fun same => by
      subst same
      cases empty.symm.trans held
    exact ⟨x, (objects _).trans ((if_neg other).trans held), loaded⟩

theorem ObjectStore.restart_keepsStore (st : ObjectStore) : st.Keeps st.restart := by
  refine .foldl (fun st o => ?_) _ st
  unfold ObjectStore.restartObject
  split
  · exact .refl st
  · split
    · exact st.freeObject_keeps o
    · rename_i x held _
      exact ObjectStore.setObject_keeps held rfl fun sound => { sound with }

theorem ObjectStore.initial_paged : ObjectStore.initial.Paged := (pageLaw_iff _).mp reset_pageLaw

theorem ObjectStore.initial_sound : ObjectStore.initial.Sound := (objectLaw_iff _).mp reset_objectLaw

end Pages

end Sys2Proof.Machine

end

section
/-! PROOFS. The entries of a lane and of the pool, what removing one leaves, and the laws of lanes and
references over what a lane does (R109, R120 to R125). -/

namespace Sys2Proof.Machine

/-! ### The circle of a lane's entries (R122) -/

section Circle

variable {l : Lane} {pre post : List CarouselEntry} {e f : CarouselEntry}

/-- Where an entry's id stands once, no other entry has it. -/
theorem id_ne_of_split (ids : ((pre ++ e :: post).map CarouselEntry.id).Nodup)
    (hf : f ∈ pre ++ post) : f.id ≠ e.id := by
  have once := (List.perm_middle.map CarouselEntry.id).nodup_iff.mp ids
  exact fun same => (List.nodup_cons.mp once).1 (same ▸ List.mem_map_of_mem hf)

/-- The entry after e, round the circle: e itself when there is no other. -/
theorem nextEntry_split (ids : ((pre ++ e :: post).map CarouselEntry.id).Nodup) :
    nextEntry (pre ++ e :: post) e.id = ((post ++ pre ++ [e]).head?).map CarouselEntry.id := by
  have skipped : (pre ++ e :: post).dropWhile (fun x => decide (x.id ≠ e.id)) = e :: post := by
    rw [List.dropWhile_append_of_pos fun x hx => by
      simpa using id_ne_of_split ids (List.mem_append_left post hx)]
    simp
  unfold nextEntry
  rw [skipped]
  cases post with
  | nil => cases pre <;> rfl
  | cons x rest => rfl

/-- The entries but e, by their ids. -/
theorem filter_id_ne (ids : ((pre ++ e :: post).map CarouselEntry.id).Nodup) :
    (pre ++ e :: post).filter (fun x => decide (x.id ≠ e.id)) = pre ++ post := by
  rw [List.filter_append, List.filter_cons_of_neg (by simp), ← List.filter_append, List.filter_eq_self]
  exact fun x hx => by simpa using id_ne_of_split ids hx

/-- The only entry removed (R125, step 4). -/
theorem Lane.remove_last (entries : l.entries = [e]) : l.remove e = Lane.initial := by
  have none_left : l.entries.filter (fun x => decide (x.id ≠ e.id)) = [] := by simp [entries]
  simp only [Lane.remove, none_left, if_true]

/-- An entry removed that is not current (R125). -/
theorem Lane.remove_other (entries : l.entries = pre ++ e :: post)
    (ids : (l.entries.map CarouselEntry.id).Nodup) (some_left : pre ++ post ≠ [])
    (current : l.current ≠ some e.id) : l.remove e = { l with entries := pre ++ post } := by
  rw [entries] at ids
  simp only [Lane.remove, Lane.owing, entries, filter_id_ne ids, some_left, current, false_and, if_false]

/-- The current entry removed: the next one left becomes current (R125, steps 1 to 3). -/
theorem Lane.remove_current {later : List CarouselEntry} (entries : l.entries = pre ++ e :: post)
    (ids : (l.entries.map CarouselEntry.id).Nodup) (next : post ++ pre = f :: later)
    (current : l.current = some e.id) :
    l.remove e =
      { l with
        entries := pre ++ post, current := some f.id, cursor := 0, done := 0
        owed :=
          if 0 < l.cursor ∨ 0 < l.done then
            some { object := objectNumber e.object, index := l.cursor }
          else l.owed } := by
  have some_left : pre ++ post ≠ [] := fun none_left => by
    obtain ⟨rfl, rfl⟩ := List.append_eq_nil_iff.mp none_left
    cases next
  have moves : nextEntry l.entries e.id = some f.id := by
    rw [entries, nextEntry_split (entries ▸ ids), next]
    rfl
  have others : l.entries.filter (fun x => decide (x.id ≠ e.id)) = pre ++ post := by
    rw [entries]
    exact filter_id_ne (entries ▸ ids)
  simp only [Lane.remove, Lane.owing, others, some_left, if_false, current, true_and, if_true,
    Lane.midWay, decide_eq_true_eq]
  split <;> simp only [Lane.advance, current, Option.bind_some, moves]

end Circle

/-- What a lane's removal does to its entries. -/
theorem Lane.remove_entries (l : Lane) (e : CarouselEntry) :
    (l.remove e).entries = l.entries.filter fun x => decide (x.id ≠ e.id) := by
  simp only [Lane.remove]
  split
  · rename_i none_left
    exact none_left.symm
  · rfl

theorem Lane.currentEntry_mem {l : Lane} {e : CarouselEntry} (h : l.currentEntry = some e) :
    e ∈ l.entries ∧ l.current = some e.id := by
  unfold Lane.currentEntry at h
  split at h
  · cases h
  · rename_i id current
    have same : e.id = id := by simpa using List.find?_some h
    exact ⟨List.mem_of_find?_eq_some h, same ▸ current⟩

/-! ### What keeps the law of a lane (R120, R122) -/

section LaneLaw

variable {l m : Lane} {e : CarouselEntry}

/-- A lane with entries, one of them current, keeps the law of the lane it had them from. -/
theorem laneLaw.of_entries (h : laneLaw l) (some_entry : l.entries ≠ []) (entries : m.entries = l.entries)
    (phase : m.phase ≠ .empty) (current : ∃ e ∈ l.entries, m.current = some e.id) : laneLaw m where
  empty none_left := absurd (entries ▸ none_left) some_entry
  current _ := ⟨phase, entries ▸ current⟩
  ids := entries ▸ h.ids

theorem laneLaw.advance (h : laneLaw l) (some_entry : l.entries ≠ []) : laneLaw l.advance := by
  obtain ⟨phase, c, hc, current⟩ := h.current some_entry
  refine h.of_entries some_entry rfl phase ?_
  obtain ⟨pre, post, entries⟩ := List.append_of_mem hc
  have moves := nextEntry_split (entries ▸ h.ids)
  obtain ⟨f, later, circle⟩ := List.exists_cons_of_ne_nil
    (List.append_ne_nil_of_right_ne_nil (post ++ pre) (List.cons_ne_nil c []))
  refine ⟨f, ?_, ?_⟩
  · have member : f ∈ post ++ pre ++ [c] := circle ▸ List.mem_cons_self
    rw [entries]
    simp only [List.mem_append, List.mem_cons] at member ⊢
    tauto
  · show l.current.bind (nextEntry l.entries) = some f.id
    rw [current, Option.bind_some, entries, moves, circle]
    rfl

theorem laneLaw.remove (h : laneLaw l) (he : e ∈ l.entries) : laneLaw (l.remove e) := by
  obtain ⟨pre, post, entries⟩ := List.append_of_mem he
  obtain ⟨phase, c, hc, current⟩ := h.current (List.ne_nil_of_mem he)
  by_cases none_left : pre ++ post = []
  · obtain ⟨rfl, rfl⟩ := List.append_eq_nil_iff.mp none_left
    rw [Lane.remove_last entries]
    exact laneLaw_initial
  · have others : (l.remove e).entries = pre ++ post := by
      rw [Lane.remove_entries, entries, filter_id_ne (entries ▸ h.ids)]
    have once : ((pre ++ post).map CarouselEntry.id).Nodup := by
      rw [← others, Lane.remove_entries]
      exact h.ids.sublist (List.filter_sublist.map _)
    by_cases same : c.id = e.id
    · obtain ⟨f, later, circle⟩ := List.exists_cons_of_ne_nil
        (fun circle : post ++ pre = [] => none_left (by
          obtain ⟨rfl, rfl⟩ := List.append_eq_nil_iff.mp circle
          rfl))
      rw [Lane.remove_current entries h.ids circle (same ▸ current)]
      have member : f ∈ pre ++ post :=
        List.perm_append_comm.mem_iff.mp (circle ▸ List.mem_cons_self)
      exact ⟨fun empty => absurd empty none_left, fun _ => ⟨phase, f, member, rfl⟩, once⟩
    · have other : l.current ≠ some e.id := fun now => same (Option.some.inj (current.symm.trans now))
      rw [Lane.remove_other entries h.ids none_left other]
      have member : c ∈ pre ++ post := by
        rw [entries] at hc
        simp only [List.mem_append, List.mem_cons] at hc ⊢
        rcases hc with before | rfl | after
        · exact .inl before
        · exact absurd rfl same
        · exact .inr after
      exact ⟨fun empty => absurd empty none_left, fun _ => ⟨phase, c, member, current⟩, once⟩

/-- A lane that has no entry is the initial one, so it does not run. -/
theorem laneLaw.entries_ne_nil (h : laneLaw l) (phase : l.phase ≠ .empty) : l.entries ≠ [] :=
  fun none_left => phase (by rw [h.empty none_left]; rfl)

theorem placeEntry_perm (e : CarouselEntry) (before : Option Nat) (entries : List CarouselEntry) :
    (placeEntry e before entries).Perm (e :: entries) := by
  cases before with
  | none => exact List.perm_append_singleton e entries
  | some id =>
    have joined : entries.takeWhile (fun x => decide (x.id.val ≠ id))
        ++ entries.dropWhile (fun x => decide (x.id.val ≠ id)) = entries := List.takeWhile_append_dropWhile
    exact List.perm_middle.trans (by rw [joined])

theorem Lane.add_entries (l : Lane) (e : CarouselEntry) (before : Option Nat) :
    (l.add e before).entries = placeEntry e before l.entries := by
  simp only [Lane.add]
  split <;> rfl

/-- A new entry keeps the law of the lane (R124). -/
theorem laneLaw.add (h : laneLaw l) (before : Option Nat) (new : e.id ∉ l.entries.map CarouselEntry.id) :
    laneLaw (l.add e before) := by
  have placed := placeEntry_perm e before l.entries
  have first : e ∈ (l.add e before).entries := by
    rw [Lane.add_entries]
    exact placed.mem_iff.mpr List.mem_cons_self
  refine ⟨fun none_left => absurd none_left (List.ne_nil_of_mem first), fun _ => ?_, ?_⟩
  · unfold Lane.add at first ⊢
    dsimp only at first ⊢
    split
    · rename_i empty
      rw [if_pos empty] at first
      exact ⟨nofun, e, first, rfl⟩
    · rename_i phase
      obtain ⟨_, c, hc, current⟩ := h.current (h.entries_ne_nil phase)
      exact ⟨phase, c, placed.mem_iff.mpr (List.mem_cons_of_mem e hc), current⟩
  · rw [Lane.add_entries, (placed.map _).nodup_iff]
    exact List.nodup_cons.mpr ⟨new, h.ids⟩

end LaneLaw

/-! ### References and the entries in use (R109) -/

section Referenced

variable {st : ObjectStore} {entries others : List CarouselEntry} {e : CarouselEntry} {o : Fin 128}

theorem ObjectStore.Referenced.perm (h : st.Referenced entries) (same : entries.Perm others) :
    st.Referenced others where
  ids := (same.map _).nodup_iff.mp h.ids
  counts o := (h.counts o).trans (same.countP_eq _)
  named e he := h.named e (same.mem_iff.mpr he)

/-- The objects after a release, all but one as they were. -/
theorem ObjectStore.release_referencesTo (st : ObjectStore) (o p : Fin 128) :
    (st.release o).referencesTo p = st.referencesTo p - if p = o then 1 else 0 := by
  have after := st.release_objects o p
  cases held : st.objects[p] with
  | none =>
    rw [held] at after
    rw [ObjectStore.referencesTo_none held, ObjectStore.referencesTo_none (after.trans (by split <;> rfl)),
      Nat.zero_sub]
  | some x =>
    rw [held] at after
    by_cases same : p = o
    · rw [if_pos same] at after ⊢
      rw [ObjectStore.referencesTo_some held, ObjectStore.referencesTo_some after]
    · rw [if_neg same] at after ⊢
      rw [ObjectStore.referencesTo_some held, ObjectStore.referencesTo_some after, Nat.sub_zero]

theorem ObjectStore.Referenced.release (h : st.Referenced (e :: entries)) :
    (st.release e.object).Referenced entries where
  ids := (List.nodup_cons.mp h.ids).2
  counts p := by
    rw [ObjectStore.release_referencesTo, h.counts p, List.countP_cons]
    by_cases same : p = e.object
    · simp [same]
    · simp [same, Ne.symm same]
  named f hf := by
    obtain ⟨x, held, loaded⟩ := h.named f (List.mem_cons_of_mem e hf)
    rw [ObjectStore.release_objects, held]
    split
    · exact ⟨_, rfl, loaded⟩
    · exact ⟨x, rfl, loaded⟩

theorem ObjectStore.Referenced.releaseAll (h : st.Referenced (entries ++ others)) :
    (st.releaseAll entries).Referenced others := by
  induction entries generalizing st with
  | nil => exact h
  | cons e rest ih => exact ih h.release

theorem ObjectStore.Referenced.grant {x : StoredObject} (h : st.Referenced entries)
    (held : st.objects[e.object] = some x) (loaded : x.state ≠ .loading)
    (new : e.id ∉ entries.map CarouselEntry.id) : (st.grant e.object).Referenced (e :: entries) := by
  have granted : st.grant e.object
      = st.setObject e.object (some { x with references := x.references + 1 }) := by
    rw [ObjectStore.grant, held]
  have objects (p : Fin 128) := st.setObject_objects e.object p
    (some { x with references := x.references + 1 })
  rw [granted]
  refine ⟨List.nodup_cons.mpr ⟨new, h.ids⟩, fun p => ?_, fun f hf => ?_⟩
  · rw [List.countP_cons, ← h.counts p]
    by_cases same : p = e.object
    · subst same
      rw [ObjectStore.referencesTo_some held,
        ObjectStore.referencesTo_some ((objects _).trans (if_pos rfl)), if_pos (decide_eq_true rfl)]
    · rw [ObjectStore.referencesTo_congr ((objects p).trans (if_neg same)),
        if_neg (by simpa using Ne.symm same)]
      rfl
  · rw [objects]
    split
    · exact ⟨_, rfl, loaded⟩
    · rename_i other
      refine h.named f ((List.mem_cons.mp hf).resolve_left fun first => other (first ▸ rfl))

/-- An object that no entry names may become FREE. -/
theorem ObjectStore.Referenced.free (h : st.Referenced entries) (unnamed : ∀ e ∈ entries, e.object ≠ o) :
    (st.freeObject o).Referenced entries where
  ids := h.ids
  counts p := by
    by_cases same : p = o
    · subst same
      have none_names : (entries.countP fun e => decide (e.object = p)) = 0 :=
        List.countP_eq_zero.mpr fun e he => by simpa using unnamed e he
      rw [none_names]
      exact ObjectStore.referencesTo_none ((st.freeObject_objects p p).trans (if_pos rfl))
    · rw [← h.counts p]
      exact ObjectStore.referencesTo_congr ((st.freeObject_objects o p).trans (if_neg same))
  named e he := by
    rw [ObjectStore.freeObject_objects, if_neg (unnamed e he)]
    exact h.named e he

/-- With no entry in use, no object has a reference. -/
theorem ObjectStore.Referenced.of_none (h : ∀ o, st.referencesTo o = 0) : st.Referenced [] :=
  ⟨.nil, h, nofun⟩

theorem ObjectStore.release_keeps (st : ObjectStore) (o : Fin 128) : st.Keeps (st.release o) := by
  unfold ObjectStore.release
  split
  · exact .refl st
  · rename_i x held
    exact ObjectStore.setObject_keeps held rfl fun sound => { sound with }

theorem ObjectStore.releaseAll_keeps (st : ObjectStore) (entries : List CarouselEntry) :
    st.Keeps (st.releaseAll entries) :=
  .foldl (f := fun (st : ObjectStore) (e : CarouselEntry) => st.release e.object)
    (fun st e => st.release_keeps e.object) entries st

theorem ObjectStore.grant_keeps (st : ObjectStore) (o : Fin 128) : st.Keeps (st.grant o) := by
  unfold ObjectStore.grant
  split
  · exact .refl st
  · rename_i x held
    exact ObjectStore.setObject_keeps held rfl fun sound => { sound with }

end Referenced

/-! ### What a lane and the store do together -/

/-- A lane and the store become another lane and store, and the laws are kept, whatever the other lanes
hold. -/
structure LaneStep (l : Lane) (st : ObjectStore) (m : Lane) (u : ObjectStore) : Prop where
  lane : laneLaw l → laneLaw m
  store : st.Keeps u
  references : laneLaw l → ∀ others, st.Referenced (l.entries ++ others) →
    u.Referenced (m.entries ++ others)

section LaneStep

variable {l m n : Lane} {st u v : ObjectStore}

theorem LaneStep.trans (h : LaneStep l st m u) (k : LaneStep m u n v) : LaneStep l st n v where
  lane := k.lane ∘ h.lane
  store := h.store.trans k.store
  references law others := k.references (h.lane law) others ∘ h.references law others

theorem LaneStep.of_store (l : Lane) (h : st.KeepsAll u) : LaneStep l st l u :=
  ⟨id, h.toKeeps, fun _ _ => h.references _⟩

/-- A lane that keeps its entries. -/
theorem LaneStep.of_lane (st : ObjectStore) (entries : m.entries = l.entries)
    (law : laneLaw l → laneLaw m) : LaneStep l st m st :=
  ⟨law, .refl st, fun _ _ h => entries ▸ h⟩

theorem LaneStep.refl (l : Lane) (st : ObjectStore) : LaneStep l st l st := .of_lane st rfl id

/-- A lane that keeps its entries, its phase and its current entry. -/
theorem LaneStep.of_same (st : ObjectStore) (entries : m.entries = l.entries) (phase : m.phase = l.phase)
    (current : m.current = l.current) (initial : l = Lane.initial → m = Lane.initial) :
    LaneStep l st m st := by
  refine .of_lane st entries fun law => ?_
  by_cases none_left : l.entries = []
  · rw [initial (law.empty none_left)]
    exact laneLaw_initial
  · obtain ⟨running, now⟩ := law.current none_left
    exact law.of_entries none_left entries (phase ▸ running) (current ▸ now)

/-- An entry removed and its reference released (R125). -/
theorem LaneStep.remove (st : ObjectStore) {e : CarouselEntry} (he : e ∈ l.entries) :
    LaneStep l st (l.remove e) (st.release e.object) where
  lane law := law.remove he
  store := st.release_keeps e.object
  references law others h := by
    obtain ⟨pre, post, entries⟩ := List.append_of_mem he
    rw [Lane.remove_entries, entries, filter_id_ne (entries ▸ law.ids)]
    rw [entries] at h
    exact (h.perm (List.perm_middle.append_right others)).release

/-- The next entry made current (R122). -/
theorem LaneStep.advance (l : Lane) (st : ObjectStore) : LaneStep l st l.advance st := by
  refine .of_lane st rfl fun law => ?_
  by_cases none_left : l.entries = []
  · rw [law.empty none_left]
    exact laneLaw_initial
  · exact law.advance none_left

/-- A lane that goes from one phase other than EMPTY to another. -/
theorem LaneStep.phase (st : ObjectStore) {phase : LanePhase} (before : l.phase ≠ .empty)
    (after : phase ≠ .empty) : LaneStep l st { l with phase := phase } st :=
  .of_lane st rfl fun law =>
    law.of_entries (law.entries_ne_nil before) rfl after (law.current (law.entries_ne_nil before)).2

/-! ### A lane's answer to a cell request (R131 to R134) -/

theorem Lane.complete_step (l : Lane) (i : Fin 32) (k : ObjectKind) {e : CarouselEntry}
    (he : e ∈ l.entries) (st : ObjectStore) (cell : Cell) :
    LaneStep l st (l.complete i k e st cell).lane (l.complete i k e st cell).store := by
  have ended : LaneStep l st { l with cursor := 0, done := 0 } st :=
    .of_same st rfl rfl rfl fun initial => by rw [initial]; rfl
  have moved : LaneStep l st
      (if e.once then ({ l with cursor := 0, done := 0 } : Lane).remove e
        else ({ l with cursor := 0, done := 0 } : Lane).advance)
      (if e.once then st.release e.object else st) := by
    split
    · exact ended.trans (.remove st he)
    · exact ended.trans (.advance _ st)
  exact iteInduction (motive := fun a : LaneAnswer => LaneStep l st a.lane a.store)
    (fun holds => moved.trans (.phase _ holds.2 nofun)) fun _ => moved

theorem Lane.sent_step (l : Lane) (i : Fin 32) (k : ObjectKind) {e : CarouselEntry}
    (he : e ∈ l.entries) (declared : Nat) (st : ObjectStore) (cell : Cell) :
    LaneStep l st (l.sent i k e declared st cell).lane (l.sent i k e declared st cell).store := by
  have moves (cursor done : Nat) : LaneStep l st { l with cursor := cursor, done := done } st :=
    .of_lane st rfl fun law => law.of_entries (List.ne_nil_of_mem he) rfl
      (law.current (List.ne_nil_of_mem he)).1 (law.current (List.ne_nil_of_mem he)).2
  unfold Lane.sent
  repeat' split
  · exact moves _ _
  · exact moves _ _
  · exact l.complete_step i k he st cell

theorem Lane.skip_step (st : ObjectStore) (l : Lane) (n : Nat) : LaneStep l st (Lane.skip st l n) st := by
  induction n generalizing l with
  | zero => exact .refl l st
  | succ n ih =>
    unfold Lane.skip
    repeat' split
    · exact .refl l st
    · exact .refl l st
    · exact (LaneStep.advance l st).trans (ih l.advance)

theorem Lane.supplyFragment_step (l : Lane) (i : Fin 32) (k : ObjectKind) (st : ObjectStore) :
    LaneStep l st (l.supplyFragment i k st).lane (l.supplyFragment i k st).store := by
  unfold Lane.supplyFragment
  split
  · exact .refl l st
  · rename_i e current
    split
    · exact .refl l st
    · have read := LaneStep.of_store l (st.fetchFragment_keeps e.object l.cursor)
      dsimp only
      split
      · exact read.trans (.advance l _)
      · exact read.trans (l.sent_step i k (Lane.currentEntry_mem current).1 _ _ _)

/-- A lane's answer keeps the laws of the lane and of the store. -/
theorem Lane.answerCell_step (l : Lane) (i : Fin 32) (k : ObjectKind) (st : ObjectStore) :
    LaneStep l st (l.answerCell i k st).lane (l.answerCell i k st).store := by
  unfold Lane.answerCell
  repeat' split
  · exact .of_same st rfl rfl rfl fun initial => by rw [initial]; rfl
  · exact .advance l st
  · exact (Lane.skip_step st l _).trans (Lane.supplyFragment_step _ i k st)

end LaneStep

/-! ### The pool of entries (R121) -/

theorem mem_entriesInUse {cs : Vector Carousel 32} {e : CarouselEntry} :
    e ∈ entriesInUse cs ↔ ∃ i : Fin 32, ∃ k, e ∈ (cs[i].lane k).entries := by
  simp only [entriesInUse, List.mem_flatMap, List.mem_append, Vector.mem_toList_iff, Vector.mem_iff_getElem]
  constructor
  · rintro ⟨c, ⟨i, hi, rfl⟩, text | picture⟩
    · exact ⟨⟨i, hi⟩, .text, text⟩
    · exact ⟨⟨i, hi⟩, .picture, picture⟩
  · rintro ⟨i, k, he⟩
    refine ⟨cs[i], ⟨i.val, i.isLt, rfl⟩, ?_⟩
    cases k with
    | text => exact .inl he
    | picture => exact .inr he

/-- One lane's entries beside those of all others, which do not depend on it. -/
theorem entriesInUse_perm (cs : Vector Carousel 32) (i : Fin 32) (k : ObjectKind) :
    ∃ others, ∀ l : Lane,
      (entriesInUse (updateAt cs i fun c => c.setLane k l)).Perm (l.entries ++ others) := by
  have joined (x : Carousel) : (updateAt cs i fun _ => x).toList
      = cs.toList.take i ++ x :: cs.toList.drop (i + 1) := by
    rw [updateAt, Vector.toList_set, List.set_eq_take_append_cons_drop, if_pos (by simp)]
  have all (c : Carousel) : entriesInUse (updateAt cs i fun _ => c) =
      (cs.toList.take i).flatMap (fun c => c.text.entries ++ c.picture.entries)
        ++ ((c.text.entries ++ c.picture.entries)
          ++ (cs.toList.drop (i + 1)).flatMap fun c => c.text.entries ++ c.picture.entries) := by
    rw [entriesInUse, joined, List.flatMap_append, List.flatMap_cons]
  refine ⟨(cs[i].lane k.other).entries
    ++ ((cs.toList.take i).flatMap (fun c => c.text.entries ++ c.picture.entries)
      ++ (cs.toList.drop (i + 1)).flatMap fun c => c.text.entries ++ c.picture.entries), fun l => ?_⟩
  have one : ((cs[i].setLane k l).text.entries ++ (cs[i].setLane k l).picture.entries).Perm
      (l.entries ++ (cs[i].lane k.other).entries) := by
    cases k with
    | text => exact .refl _
    | picture => exact List.perm_append_comm
  have here : entriesInUse (updateAt cs i fun c => c.setLane k l)
      = entriesInUse (updateAt cs i fun _ => cs[i].setLane k l) := rfl
  rw [here, all, ← List.append_assoc l.entries]
  exact (List.perm_append_comm_assoc _ _ _).trans (one.append_right _)

end Sys2Proof.Machine

end

section
/-! PROOFS. The commands that leave the object store and the carousels alone. -/

namespace Sys2Proof.Machine

/-- The part of the state that the laws of the store and of the lanes look at. -/
structure StoreView where
  store : ObjectStore
  carousels : Vector Carousel 32

def State.storeView (s : State) : StoreView := { store := s.store, carousels := s.carousels }

section Frame

variable (s : State)

@[simp] theorem State.withControl_storeView (x : Control) : (s.withControl x).storeView = s.storeView := rfl
@[simp] theorem State.withServices_storeView (x : ServiceTable) :
    (s.withServices x).storeView = s.storeView := rfl
@[simp] theorem State.withPlan_storeView (x : Plan) : (s.withPlan x).storeView = s.storeView := rfl
@[simp] theorem State.withPorts_storeView (x : Vector Port 8) :
    (s.withPorts x).storeView = s.storeView := rfl
@[simp] theorem State.withCues_storeView (x : Vector CueFilter 4) :
    (s.withCues x).storeView = s.storeView := rfl
@[simp] theorem State.withLines_storeView (x : Vector TriggerLine 4) :
    (s.withLines x).storeView = s.storeView := rfl
@[simp] theorem State.withTemplates_storeView (x : TemplateStore) :
    (s.withTemplates x).storeView = s.storeView := rfl
@[simp] theorem State.withAlerts_storeView (x : AlertUnit) : (s.withAlerts x).storeView = s.storeView := rfl
@[simp] theorem State.withDirectory_storeView (x : Directory) :
    (s.withDirectory x).storeView = s.storeView := rfl
@[simp] theorem State.withOutput_storeView (x : Output) : (s.withOutput x).storeView = s.storeView := rfl
@[simp] theorem State.raise_storeView (src : ReportSource) (d : Octets) :
    (s.raise src d).storeView = s.storeView := rfl
@[simp] theorem State.raiseAll_storeView (e : Events) : (s.raiseAll e).storeView = s.storeView :=
  s.raiseAll_field e State.storeView fun _ _ => rfl

end Frame

section Kept

variable (s : State) (b : Octets)

/-! ### Services and plans -/

theorem svcSet_storeView : (svcSet b s).1.storeView = s.storeView := by
  unfold svcSet
  repeat' split
  all_goals rfl

theorem planEdit_storeView : (planEdit b s).1.storeView = s.storeView := by
  unfold planEdit
  dsimp only
  repeat' split
  all_goals rfl

theorem planCopy_storeView : (planCopy b s).1.storeView = s.storeView := by
  unfold planCopy
  split <;> rfl

theorem planCommit_storeView : (planCommit b s).1.storeView = s.storeView := by
  unfold planCommit
  repeat' split
  all_goals rfl

theorem planWithdraw_storeView : (planWithdraw b s).1.storeView = s.storeView := by
  unfold planWithdraw
  repeat' split
  all_goals rfl

/-! ### Templates, alerts, trigger lines, cue filters -/

theorem tplErase_storeView : (tplErase b s).1.storeView = s.storeView := by
  unfold tplErase
  repeat' split
  all_goals rfl

theorem tplWrite_storeView : (tplWrite b s).1.storeView = s.storeView := by
  unfold tplWrite
  repeat' split
  all_goals rfl

theorem tplLock_storeView : (tplLock b s).1.storeView = s.storeView := by
  unfold tplLock
  dsimp only
  repeat' split
  all_goals rfl

theorem tplUnlock_storeView : (tplUnlock b s).1.storeView = s.storeView := by
  unfold tplUnlock
  repeat' split
  all_goals rfl

theorem eraseEnd_storeView : (eraseEnd s).storeView = s.storeView := by
  unfold eraseEnd
  split <;> rfl

theorem writeEnd_storeView : (writeEnd s).storeView = s.storeView := by
  unfold writeEnd
  split <;> rfl

@[simp] theorem State.releaseAlert_storeView (origin : Origin) :
    (s.releaseAlert origin).storeView = s.storeView := by
  unfold State.releaseAlert
  repeat' split
  all_goals rfl

@[simp] theorem State.admitFor_storeView (origin : Origin) (c : AlertContent) :
    (s.admitFor origin c).storeView = s.storeView := by
  unfold State.admitFor
  dsimp only
  split <;> simp

@[simp] theorem State.sourceRequest_storeView (origin : Origin) (c : SourceContent) :
    (s.sourceRequest origin c).storeView = s.storeView := by
  unfold State.sourceRequest State.sourceAdmission
  dsimp only
  repeat' split
  all_goals simp

theorem alertRaise_storeView : (alertRaise b s).1.storeView = s.storeView := by
  unfold alertRaise
  dsimp only
  repeat' split
  all_goals simp

theorem alertClear_storeView : (alertClear b s).1.storeView = s.storeView := by
  unfold alertClear
  repeat' split
  all_goals rfl

theorem alertTimerExpiry_storeView (n : Octet) : (alertTimerExpiry n s).storeView = s.storeView := by
  unfold alertTimerExpiry
  repeat' split
  all_goals rfl

@[simp] theorem State.trigger_storeView (n : Fin 4) (edge : Edge) (mode : LineMode) :
    (s.trigger n edge mode).storeView = s.storeView := State.sourceRequest_storeView _ _ _

@[simp] theorem State.acceptedEdge_storeView (n : Fin 4) (edge : Edge) :
    (s.acceptedEdge n edge).storeView = s.storeView := by
  unfold State.acceptedEdge
  dsimp only
  repeat' split
  all_goals simp [State.raiseTrigger]

@[simp] theorem State.becomeActive_storeView (n : Fin 4) :
    (s.becomeActive n).storeView = s.storeView := by
  unfold State.becomeActive
  repeat' split
  all_goals simp

theorem filterTimerExpiry_storeView (n : Fin 4) : (filterTimerExpiry n s).storeView = s.storeView := by
  unfold filterTimerExpiry
  dsimp only
  repeat' split
  all_goals simp

theorem trigSet_storeView : (trigSet b s).1.storeView = s.storeView := by
  unfold trigSet
  dsimp only
  repeat' split
  all_goals simp

theorem triggerRawChange_storeView (n : Fin 4) (level : PinLevel) :
    (triggerRawChange n level s).storeView = s.storeView := rfl

theorem cueSet_storeView : (cueSet b s).1.storeView = s.storeView := by
  unfold cueSet
  repeat' split
  all_goals rfl

theorem cueRead_storeView : (cueRead b s).1.storeView = s.storeView := by
  unfold cueRead
  split <;> rfl

@[simp] theorem State.handOn_storeView (n : Fin 8) (k : Fin 4) :
    (s.handOn n k b).storeView = s.storeView := by
  refine foldl_field State.storeView (fun u m => ?_) _ s
  unfold State.examine
  dsimp only
  repeat' split
  all_goals simp

/-! ### Contributor ports -/

@[simp] theorem State.portEvent_storeView (n : Fin 8) (work : Port → Port × Events) :
    (s.portEvent n work).storeView = s.storeView := State.raiseAll_storeView _ _

theorem portSet_storeView : (portSet b s).1.storeView = s.storeView := by
  unfold portSet
  split <;> rfl

theorem portRenegotiate_storeView : (portRenegotiate b s).1.storeView = s.storeView := by
  unfold portRenegotiate
  repeat' split
  all_goals rfl

theorem portRead_storeView : (portRead b s).1.storeView = s.storeView := by
  unfold portRead
  split <;> rfl

theorem offerWordPeriod_storeView (n : Fin 8) : (offerWordPeriod n s).storeView = s.storeView := by
  unfold offerWordPeriod
  split <;> simp

theorem listenTimerExpiry_storeView (n : Fin 8) : (listenTimerExpiry n s).storeView = s.storeView := by
  unfold listenTimerExpiry
  split <;> simp

theorem linkTimerExpiry_storeView (n : Fin 8) : (linkTimerExpiry n s).storeView = s.storeView := by
  unfold linkTimerExpiry
  split <;> simp

@[simp] theorem State.takeItem_storeView (n : Fin 8) (i : LineItem) :
    (s.takeItem n i).storeView = s.storeView := by
  cases i with
  | word w => rfl
  | failedFrame => rfl
  | frame f =>
    unfold State.takeItem State.takeFrame
    dsimp only
    repeat' split
    · exact (State.handOn_storeView _ _ _ _).trans (State.portEvent_storeView _ _ _)
    · rfl
    · rfl

theorem lineOctets_storeView (n : Fin 8) : (lineOctets n b s).storeView = s.storeView := by
  unfold lineOctets
  dsimp only
  split
  · rfl
  · exact foldl_field State.storeView (fun u i => u.takeItem_storeView n i) _ _

@[simp] theorem State.takeStream_storeView (x : Stream) :
    (s.takeStream x).1.storeView = s.storeView := by
  unfold State.takeStream
  dsimp only
  split <;> rfl

/-! ### The assembler, but for the cells it asks the carousels for -/

@[simp] theorem State.putBack_storeView (a : Assembly) : (s.putBack a).storeView = s.storeView :=
  State.raiseAll_storeView _ _

theorem streamTake_storeView : (streamTake s).storeView = s.storeView := by
  unfold streamTake
  dsimp only
  repeat' split
  all_goals simp

theorem alertCellRequest_storeView : (alertCellRequest s).storeView = s.storeView := by
  unfold alertCellRequest
  dsimp only
  repeat' split
  all_goals simp [State.alertTextCell]

theorem frameAssemblyComplete_storeView : (frameAssemblyComplete s).storeView = s.storeView := by
  unfold frameAssemblyComplete
  repeat' split
  all_goals simp [State.setWork]

theorem outputTransmissionEnd_storeView : (outputTransmissionEnd s).storeView = s.storeView := rfl

theorem stallTimerExpiry_storeView : (stallTimerExpiry s).storeView = s.storeView := by
  unfold stallTimerExpiry
  split <;> rfl

/-! ### The control unit -/

theorem messageReceived_storeView (octets : List LineOctet) :
    (messageReceived octets s).storeView = s.storeView := rfl

theorem transmitterFree_storeView : (transmitterFree s).storeView = s.storeView := rfl

theorem unknownKind_storeView : (unknownKind s).storeView = s.storeView := by
  unfold unknownKind
  repeat' split
  all_goals rfl

theorem startingEnd_storeView : (startingEnd s).storeView = s.storeView := by
  unfold startingEnd
  repeat' split
  all_goals rfl

theorem reportSet_storeView : (reportSet b s).1.storeView = s.storeView := by
  unfold reportSet
  split <;> rfl

end Kept

end Sys2Proof.Machine

end

section
/-! PROOFS. The laws of the page memory, of pages, objects, lanes and references over every step
(R101 to R103, R109, R120 to R122). -/

namespace Sys2Proof.Machine

/-! ### Lanes and entries after one lane is written -/

theorem Carousel.lane_setLane_other (c : Carousel) {k m : ObjectKind} (h : m ≠ k) (l : Lane) :
    (c.setLane k l).lane m = c.lane m := by
  cases k <;> cases m
  · exact absurd rfl h
  · rfl
  · rfl
  · exact absurd rfl h

/-- Reading a lane after one was written. -/
theorem State.lane_setLane_get (s : State) (i j : Fin 32) (k m : ObjectKind) (l : Lane) :
    (s.setLane i k l).lane j m = if j = i ∧ m = k then l else s.lane j m := by
  rw [State.lane, State.setLane, State.withCarousels_carousels, updateAt_get]
  by_cases here : j = i
  · subst here
    by_cases same : m = k
    · subst same
      rw [if_pos rfl, if_pos ⟨rfl, rfl⟩, Carousel.lane_setLane]
    · rw [if_pos rfl, if_neg (fun h => same h.2), Carousel.lane_setLane_other _ same]
      rfl
  · rw [if_neg here, if_neg (fun h => here h.1)]
    rfl

/-- The entries in use, one lane's first, before and after that lane is written. -/
theorem State.entriesInUse_setLane (s : State) (i : Fin 32) (k : ObjectKind) :
    ∃ others, (entriesInUse s.carousels).Perm ((s.lane i k).entries ++ others) ∧
      ∀ l : Lane, (entriesInUse (s.setLane i k l).carousels).Perm (l.entries ++ others) := by
  obtain ⟨others, perm⟩ := entriesInUse_perm s.carousels i k
  have here := perm (s.lane i k)
  rw [show (updateAt s.carousels i fun c => c.setLane k (s.lane i k)) = s.carousels from
    congrArg State.carousels (s.setLane_self i k)] at here
  exact ⟨others, here, perm⟩

/-! ### The laws from one state to another -/

/-- From one state to the other the laws of the store and of the lanes are kept. -/
structure State.KeepsStore (s t : State) : Prop where
  store : s.store.Keeps t.store
  lanes : LaneLaw s → LaneLaw t
  references : LaneLaw s → ReferenceLaw s → ReferenceLaw t

section Keeps

variable {s t u : State}

theorem State.KeepsStore.trans (h : s.KeepsStore t) (k : t.KeepsStore u) : s.KeepsStore u where
  store := h.store.trans k.store
  lanes := k.lanes ∘ h.lanes
  references law := k.references (h.lanes law) ∘ h.references law

theorem State.KeepsStore.of_view (h : t.storeView = s.storeView) : s.KeepsStore t := by
  have store : t.store = s.store := congrArg StoreView.store h
  have carousels : t.carousels = s.carousels := congrArg StoreView.carousels h
  refine ⟨store ▸ .refl _, fun law i k => ?_, fun _ law => (referenceLaw_iff t).mpr ?_⟩
  · rw [State.lane, carousels]
    exact law i k
  · rw [store, carousels]
    exact (referenceLaw_iff s).mp law

theorem State.KeepsStore.refl (s : State) : s.KeepsStore s := .of_view rfl

theorem State.KeepsStore.foldl {α : Type} {f : State → α → State}
    (h : ∀ s x, State.KeepsStore s (f s x)) (l : List α) (s : State) : s.KeepsStore (l.foldl f s) := by
  induction l generalizing s with
  | nil => exact .refl s
  | cons x rest ih => exact (h s x).trans (ih _)

theorem State.KeepsStore.of_store (s : State) {st : ObjectStore} (h : s.store.KeepsAll st) :
    s.KeepsStore (s.withStore st) where
  store := h.toKeeps
  lanes law := law
  references _ law := (referenceLaw_iff _).mpr (h.references _ ((referenceLaw_iff s).mp law))

/-- One lane and the store changed, and their laws kept beside what the other lanes hold. -/
theorem State.KeepsStore.of_beside {i : Fin 32} {k : ObjectKind} {m : Lane} {st : ObjectStore}
    (lane : laneLaw (s.lane i k) → laneLaw m) (store : s.store.Keeps st)
    (references : laneLaw (s.lane i k) → ∀ others,
      (entriesInUse s.carousels).Perm ((s.lane i k).entries ++ others) →
      s.store.Referenced ((s.lane i k).entries ++ others) → st.Referenced (m.entries ++ others)) :
    s.KeepsStore ((s.setLane i k m).withStore st) where
  store := store
  lanes law j n := by
    rw [State.lane_withStore, State.lane_setLane_get]
    split
    · exact lane (law i k)
    · exact law j n
  references lanes law := by
    obtain ⟨others, before, after⟩ := s.entriesInUse_setLane i k
    have laws := ((referenceLaw_iff s).mp law).perm before
    exact (referenceLaw_iff _).mpr ((references (lanes i k) others before laws).perm (after m).symm)

theorem State.KeepsStore.of_lane {i : Fin 32} {k : ObjectKind} {m : Lane} {st : ObjectStore}
    (h : LaneStep (s.lane i k) s.store m st) : s.KeepsStore ((s.setLane i k m).withStore st) :=
  .of_beside h.lane h.store fun law others _ => h.references law others

theorem State.KeepsStore.of_setLane {i : Fin 32} {k : ObjectKind} {m : Lane}
    (h : LaneStep (s.lane i k) s.store m s.store) : s.KeepsStore (s.setLane i k m) :=
  .of_lane (st := s.store) h

theorem event_keepsStore {f : State → State} (work : s.KeepsStore (f s)) (h : event f s = .next t) :
    s.KeepsStore t := by
  rcases event_next h with ⟨_, rfl⟩ | ⟨_, rfl⟩
  · exact .refl _
  · exact work.trans (.of_view rfl)

theorem event_keepsStore_of_view {f : State → State} (work : ∀ u, (f u).storeView = u.storeView)
    (h : event f s = .next t) : s.KeepsStore t := event_keepsStore (.of_view (work s)) h

theorem request_keepsStore {c : Instr} {owner : Octets → State → State × Answer}
    (work : ∀ b u, State.KeepsStore u (owner b u).1) (h : event (request c owner) s = .next t) :
    s.KeepsStore t := by
  refine event_keepsStore ?_ h
  rcases request_cases c owner s with h | ⟨r, rest, _, ⟨d, a, h, _⟩ | h⟩
  · rw [h]
    exact .refl s
  · rw [h]
    exact .of_view rfl
  · rw [h]
    exact .trans (t := s.withControl rest) (.of_view rfl) ((work r.body _).trans (.of_view rfl))

theorem request_keepsStore_of_view {c : Instr} {owner : Octets → State → State × Answer}
    (work : ∀ u b, (owner b u).1.storeView = u.storeView) (h : event (request c owner) s = .next t) :
    s.KeepsStore t := request_keepsStore (fun b u => .of_view (work u b)) h

end Keeps

/-! ### Entries found and removed (R125, R127) -/

section Removal

variable {s : State} {i j : Fin 32} {k m : ObjectKind} {e f : CarouselEntry}

theorem findEntry_some {cs : Vector Carousel 32} {id : Nat} (h : findEntry cs id = some (i, k, e)) :
    e ∈ (cs[i].lane k).entries ∧ e.id.val = id := by
  obtain ⟨j, _, found⟩ := List.exists_of_findSome?_eq_some h
  split at found
  · rename_i f text
    cases found
    exact ⟨List.mem_of_find?_eq_some text, by simpa using List.find?_some text⟩
  · obtain ⟨f, picture, same⟩ := Option.map_eq_some_iff.mp found
    cases same
    exact ⟨List.mem_of_find?_eq_some picture, by simpa using List.find?_some picture⟩

theorem findEntry_none {cs : Vector Carousel 32} {id : Nat} (h : findEntry cs id = none) (i : Fin 32)
    (k : ObjectKind) : ∀ e ∈ (cs[i].lane k).entries, e.id.val ≠ id := by
  have here := List.findSome?_eq_none_iff.mp h i (List.mem_finRange i)
  split at here
  · cases here
  · rename_i text
    cases k with
    | text => exact fun e he => by simpa using List.find?_eq_none.mp text e he
    | picture =>
      have picture := Option.map_eq_none_iff.mp here
      exact fun e he => by simpa using List.find?_eq_none.mp picture e he

theorem State.removeEntry_keepsStore (he : e ∈ (s.lane i k).entries) :
    s.KeepsStore (s.removeEntry i k e) := .of_lane (.remove s.store he)

theorem State.removeId_keepsStore (s : State) (id : Nat) : s.KeepsStore (s.removeId id) := by
  unfold State.removeId
  split
  · exact .refl s
  · rename_i i k e found
    exact State.removeEntry_keepsStore (findEntry_some found).1

theorem State.removeIds_keepsStore (ids : List Nat) (s : State) :
    s.KeepsStore (ids.foldl State.removeId s) := .foldl State.removeId_keepsStore ids s

/-- An entry's id says which lane holds it (R121). -/
theorem ReferenceLaw.lane_unique (h : ReferenceLaw s) (he : e ∈ (s.lane i k).entries)
    (hf : f ∈ (s.lane j m).entries) (same : f.id = e.id) : j = i ∧ m = k := by
  by_contra other
  obtain ⟨others, before, after⟩ := s.entriesInUse_setLane i k
  have elsewhere : f ∈ others := by
    refine (after Lane.initial).mem_iff.mp (mem_entriesInUse.mpr ⟨j, m, ?_⟩)
    show f ∈ ((s.setLane i k Lane.initial).lane j m).entries
    rwa [State.lane_setLane_get, if_neg other]
  have once := (before.map CarouselEntry.id).nodup_iff.mp h.ids
  rw [List.map_append, List.nodup_append] at once
  obtain ⟨_, _, apart⟩ := once
  exact apart _ (List.mem_map_of_mem he) _ (List.mem_map_of_mem elsewhere) same.symm

/-- A lane without the entry of this id, if it has one. -/
def Lane.without (l : Lane) (id : Nat) : Lane :=
  match l.entries.find? fun e => e.id.val = id with
  | some e => l.remove e
  | none => l

theorem Lane.without_of_mem {l : Lane} (ids : (l.entries.map CarouselEntry.id).Nodup)
    (he : e ∈ l.entries) : l.without e.id.val = l.remove e := by
  unfold Lane.without
  split
  · rename_i f found
    have same : f.id = e.id := Fin.ext (by simpa using List.find?_some found)
    rw [List.inj_on_of_nodup_map ids (List.mem_of_find?_eq_some found) he same]
  · rename_i missing
    exact absurd (decide_eq_true rfl) (List.find?_eq_none.mp missing e he)

theorem Lane.without_of_notMem {l : Lane} {id : Nat} (h : ∀ e ∈ l.entries, e.id.val ≠ id) :
    l.without id = l := by
  unfold Lane.without
  rw [List.find?_eq_none.mpr fun e he => by simpa using h e he]

theorem Lane.without_entries (l : Lane) (id : Nat) :
    (l.without id).entries = l.entries.filter fun e => decide (e.id.val ≠ id) := by
  unfold Lane.without
  split
  · rename_i e found
    have same : e.id.val = id := by simpa using List.find?_some found
    rw [Lane.remove_entries, ← same]
    exact List.filter_congr fun x _ => by simp [Fin.ext_iff]
  · rename_i missing
    exact (List.filter_eq_self.mpr fun e he => by simpa using List.find?_eq_none.mp missing e he).symm

/-- What the removal of an id does, lane by lane. -/
theorem State.removeId_lane (lanes : LaneLaw s) (law : ReferenceLaw s) (id : Nat) (j : Fin 32)
    (m : ObjectKind) : (s.removeId id).lane j m = (s.lane j m).without id := by
  unfold State.removeId
  split
  · rename_i missing
    exact (Lane.without_of_notMem (findEntry_none missing j m)).symm
  · rename_i i k e found
    obtain ⟨he, rfl⟩ := findEntry_some found
    rw [State.removeEntry, State.lane_withStore, State.lane_setLane_get]
    split
    · rename_i here
      obtain ⟨rfl, rfl⟩ := here
      exact (Lane.without_of_mem (lanes j m).ids he).symm
    · rename_i other
      exact (Lane.without_of_notMem fun f hf same => other (law.lane_unique he hf (Fin.ext same))).symm

theorem State.removeIds_lane (lanes : LaneLaw s) (law : ReferenceLaw s) (ids : List Nat) (j : Fin 32)
    (m : ObjectKind) : (ids.foldl State.removeId s).lane j m = ids.foldl Lane.without (s.lane j m) := by
  induction ids generalizing s with
  | nil => rfl
  | cons id rest ih =>
    have keeps := s.removeId_keepsStore id
    rw [List.foldl_cons, List.foldl_cons, ih (keeps.lanes lanes) (keeps.references lanes law),
      State.removeId_lane lanes law]

theorem Lane.withoutAll_entries (ids : List Nat) (l : Lane) :
    (ids.foldl Lane.without l).entries = l.entries.filter fun e => decide (e.id.val ∉ ids) := by
  induction ids generalizing l with
  | nil => simp
  | cons id rest ih =>
    rw [List.foldl_cons, ih, Lane.without_entries, List.filter_filter]
    exact List.filter_congr fun e _ => by simp [Bool.and_comm]

/-! ### The entries that name an object (R127) -/

theorem mem_idsNaming {cs : Vector Carousel 32} {o : Fin 128} {id : Nat} :
    id ∈ idsNaming cs o ↔ ∃ e ∈ entriesInUse cs, e.object = o ∧ e.id.val = id := by
  simp only [idsNaming, List.mem_filter, List.mem_range, List.contains_iff_mem, List.mem_map,
    decide_eq_true_eq, and_assoc]
  exact ⟨fun h => h.2, fun ⟨e, he, names, same⟩ => ⟨same ▸ e.id.isLt, e, he, names, same⟩⟩

/-- An entry in use is among them exactly when it names the object: no two share an id. -/
theorem ReferenceLaw.id_mem_idsNaming (h : ReferenceLaw s) (he : e ∈ entriesInUse s.carousels)
    (o : Fin 128) : e.id.val ∈ idsNaming s.carousels o ↔ e.object = o := by
  rw [mem_idsNaming]
  constructor
  · rintro ⟨f, hf, names, same⟩
    rwa [← List.inj_on_of_nodup_map h.ids hf he (Fin.ext same)]
  · exact fun names => ⟨e, he, names, rfl⟩

theorem ReferenceLaw.removed_entries (lanes : LaneLaw s) (law : ReferenceLaw s) (o : Fin 128)
    (i : Fin 32) (k : ObjectKind) :
    (((idsNaming s.carousels o).foldl State.removeId s).lane i k).entries
      = (s.lane i k).entries.filter fun e => decide (e.object ≠ o) := by
  rw [State.removeIds_lane lanes law, Lane.withoutAll_entries]
  refine List.filter_congr fun e he => decide_eq_decide.mpr (not_congr ?_)
  exact law.id_mem_idsNaming (mem_entriesInUse.mpr ⟨i, k, he⟩) o

/-- An object that is LOADING or has no references is named by no entry, so OBJ_DROP removes the entries
that name it in either case. -/
theorem ReferenceLaw.dropped_ids (law : ReferenceLaw s) {o : Fin 128} {x : StoredObject}
    (held : s.store.objects[o] = some x) :
    (if x.state ≠ .loading ∧ 0 < x.references then idsNaming s.carousels o else [])
      = idsNaming s.carousels o := by
  split
  · rfl
  · rename_i free
    refine (List.eq_nil_iff_forall_not_mem.mpr fun id named => free ?_).symm
    obtain ⟨e, he, rfl, _⟩ := mem_idsNaming.mp named
    obtain ⟨y, found, loaded⟩ := law.named e he
    obtain rfl := Option.some.inj (held.symm.trans found)
    have count := law.counts e.object
    rw [ObjectStore.referencesTo_some held] at count
    exact ⟨loaded, count ▸ List.countP_pos_iff.mpr ⟨e, he, decide_eq_true rfl⟩⟩

/-- After them no entry names the object. -/
theorem ReferenceLaw.unnamed (lanes : LaneLaw s) (law : ReferenceLaw s) (o : Fin 128) :
    ∀ e ∈ entriesInUse ((idsNaming s.carousels o).foldl State.removeId s).carousels, e.object ≠ o := by
  intro e he
  obtain ⟨i, k, he⟩ := mem_entriesInUse.mp he
  have left : e ∈ (((idsNaming s.carousels o).foldl State.removeId s).lane i k).entries := he
  rw [law.removed_entries lanes] at left
  simpa using (List.mem_filter.mp left).2

end Removal

/-! ### The commands on objects -/

section Owners

variable (b : Octets) (s : State)

theorem ObjectStore.lowestFree_some {st : ObjectStore} {o : Fin 128} (h : st.lowestFree = some o) :
    st.objects[o] = none := by simpa using List.find?_some h

theorem objOpen_keepsStore : s.KeepsStore (objOpen b s).1 := by
  unfold objOpen
  dsimp only
  repeat' split
  · exact .refl s
  · exact .refl s
  · exact .refl s
  · exact .refl s
  · rename_i kind _ range _ o lowest room
    obtain ⟨least, limit⟩ := not_or.mp range
    exact .of_store s (ObjectStore.openObject_keeps (ObjectStore.lowestFree_some lowest)
      (Nat.pos_of_ne_zero least) (not_lt.mp limit) (not_lt.mp room))

theorem objLoad_keepsStore : s.KeepsStore (objLoad b s).1 := by
  unfold objLoad
  dsimp only
  repeat' split
  · exact .refl s
  · exact .refl s
  · exact .refl s
  · exact .refl s
  · exact .refl s
  · rename_i x held loading offset inside
    refine .of_store s (ObjectStore.load_keeps held (not_not.mp loading) ?_)
    rw [← not_not.mp offset]
    exact not_lt.mp inside

theorem objClose_keepsStore : s.KeepsStore (objClose b s).1 := by
  unfold objClose
  repeat' split
  · exact .refl s
  · exact .refl s
  · exact .refl s
  · exact .refl s
  · rename_i x held _ whole
    exact .of_store s (ObjectStore.closeObject_keeps held (not_lt.mp whole))

theorem objRead_keepsStore : s.KeepsStore (objRead b s).1 := by
  unfold objRead
  dsimp only
  repeat' split
  · exact .refl s
  · exact .refl s
  · exact .refl s
  · exact .refl s
  · exact .refl s
  · rename_i o _ _ _ x _ _ _
    have read := ReadPass.foldl_keeps o x.pages
      (placeGroups (readPlaces x.declared (field16 b 1) (field16 b 3)))
      { store := s.store, groups := [], bad := false, events := [] }
    exact (State.KeepsStore.of_store s read).trans (.of_view (State.raiseAll_storeView _ _))

/-- The entries removed, and the object freed. -/
theorem State.dropObject_keepsStore {o : Fin 128} {x : StoredObject}
    (held : s.store.objects[o] = some x) {ids : List Nat}
    (hids : ids = if x.state ≠ .loading ∧ 0 < x.references then idsNaming s.carousels o else []) :
    s.KeepsStore ((ids.foldl State.removeId s).withStore
      ((ids.foldl State.removeId s).store.freeObject o)) := by
  have removed := State.removeIds_keepsStore ids s
  refine ⟨removed.store.trans (ObjectStore.freeObject_keeps _ o), removed.lanes, fun lanes law => ?_⟩
  have after := (referenceLaw_iff _).mp (removed.references lanes law)
  rw [law.dropped_ids held] at hids
  exact (referenceLaw_iff _).mpr (after.free (hids ▸ law.unnamed lanes o))

theorem objDrop_keepsStore : s.KeepsStore (objDrop b s).1 := by
  unfold objDrop
  split
  · split
    · exact .refl s
    · split
      · exact .refl s
      · exact s.dropObject_keepsStore ‹_› rfl
  · exact .refl s

theorem bitFault_keepsStore (page : Fin 1024) (group : Fin 32) (bits : List Nat) :
    s.KeepsStore (bitFault page group bits s) :=
  .of_store s (.foldl (ObjectStore.flipBit_keeps _) bits s.store)

theorem storeClear_keepsStore : s.KeepsStore (storeClear b s).1 := .of_store s s.store.clearCounts_keeps

/-! ### The commands on lanes -/

/-- An id that no entry has (R124). -/
theorem freeEntryId_new {cs : Vector Carousel 32} {id : Fin 256} (h : freeEntryId cs = some id) :
    id ∉ (entriesInUse cs).map CarouselEntry.id := by
  obtain ⟨n, unused, fits⟩ := Option.bind_eq_some_iff.mp h
  have new := List.find?_some unused
  intro used
  obtain ⟨e, he, rfl⟩ := List.mem_map.mp used
  have same : n = e.id.val := by
    unfold toFin? at fits
    split at fits
    · exact congrArg Fin.val (Option.some.inj fits)
    · cases fits
  simp only [Bool.not_eq_true', List.contains_eq_mem, decide_eq_false_iff_not, List.mem_map] at new
  exact new ⟨e, he, same.symm⟩

/-- An entry added and a reference taken (R124). -/
theorem State.addEntry_keepsStore {op : EntryOperand} {x : StoredObject} {id : Fin 256}
    (held : s.store.objects[op.object] = some x) (ready : x.state = .ready) (k : ObjectKind)
    (new : freeEntryId s.carousels = some id) : s.KeepsStore (s.addEntry op k id) := by
  obtain ⟨others, before, _⟩ := s.entriesInUse_setLane op.service k
  have unused := freeEntryId_new new
  have inLane : id ∉ (s.lane op.service k).entries.map CarouselEntry.id := fun used => unused
    ((before.map _).mem_iff.mpr (by rw [List.map_append]; exact List.mem_append_left _ used))
  refine .of_beside (fun law => law.add op.before inLane) (s.store.grant_keeps op.object)
    fun law others perm laws => ?_
  have new : id ∉ ((s.lane op.service k).entries ++ others).map CarouselEntry.id :=
    fun used => unused ((perm.map _).mem_iff.mpr used)
  rw [Lane.add_entries]
  refine (laws.grant (e := ⟨id, op.object, op.repeats, op.hold, op.notify, op.once⟩) held
    (by simp [ready]) new).perm ?_
  exact ((placeEntry_perm _ _ _).append_right others).symm

theorem carAdd_keepsStore : s.KeepsStore (carAdd b s).1 := by
  unfold carAdd
  repeat' split
  · exact .refl s
  · exact .refl s
  · exact .refl s
  · exact .refl s
  · exact .refl s
  · exact .refl s
  · rename_i x held ready _ _ id new
    exact s.addEntry_keepsStore held (not_not.mp ready) x.kind new

theorem carRemove_keepsStore : s.KeepsStore (carRemove b s).1 := by
  unfold carRemove
  split
  · exact .refl s
  · rename_i i k e found
    exact State.removeEntry_keepsStore (findEntry_some found).1

/-- Every entry of a lane removed (R126). -/
theorem LaneStep.clear (l : Lane) (st : ObjectStore) :
    LaneStep l st Lane.initial (st.releaseAll l.entries) where
  lane _ := laneLaw_initial
  store := st.releaseAll_keeps l.entries
  references _ _ h := h.releaseAll

theorem State.clearLane_store (i : Fin 32) (k : ObjectKind) :
    (s.clearLane i k).store = s.store.releaseAll (s.lane i k).entries := by
  have all (entries : List CarouselEntry) (u : State) :
      (entries.foldl (fun t e => t.removeEntry i k e) u).store = u.store.releaseAll entries := by
    induction entries generalizing u with
    | nil => rfl
    | cons e rest ih => exact ih (u.removeEntry i k e)
  exact all _ s

theorem State.clearLane_keepsStore (i : Fin 32) (k : ObjectKind) : s.KeepsStore (s.clearLane i k) := by
  have cleared := State.KeepsStore.of_lane (.clear (s.lane i k) s.store)
  refine ⟨s.clearLane_store i k ▸ cleared.store, fun lanes => ?_, fun lanes => ?_⟩
  · rw [State.clearLane_eq (lanes i k)]
    exact cleared.lanes lanes
  · rw [State.clearLane_eq (lanes i k)]
    exact cleared.references lanes

theorem carClear_keepsStore : s.KeepsStore (carClear b s).1 := by
  unfold carClear
  repeat' split
  · exact .refl s
  · exact .refl s
  · exact s.clearLane_keepsStore _ _

theorem carResume_keepsStore : s.KeepsStore (carResume b s).1 := by
  unfold carResume
  repeat' split
  · exact .refl s
  · rename_i held
    exact .of_setLane (.phase _ (by simp [held]) nofun)
  · exact .refl s

theorem svcDrop_keepsStore : s.KeepsStore (svcDrop b s).1 := by
  unfold svcDrop
  repeat' split
  · exact .refl s
  · exact .refl s
  · exact .refl s
  · exact (s.clearLane_keepsStore _ .text).trans
      ((State.clearLane_keepsStore _ _ .picture).trans (.of_view rfl))

/-! ### Cells and frame starts (R77, R130, R138) -/

theorem State.carouselCell_keepsStore (i : Fin 32) (first : Bool) :
    s.KeepsStore (s.carouselCell i first).1 := by
  unfold State.carouselCell
  split
  · exact .refl s
  · rename_i k _
    exact (State.KeepsStore.of_lane ((s.lane i k).answerCell_step i k s.store)).trans
      (.of_view (State.raiseAll_storeView _ _))

theorem cellRequest_keepsStore : s.KeepsStore (cellRequest s) := by
  unfold cellRequest
  dsimp only
  repeat' split
  · exact .refl s
  · exact .refl s
  · exact .refl s
  · exact (s.carouselCell_keepsStore _ _).trans (.of_view (State.putBack_storeView _ _))

theorem LaneStep.restart (l : Lane) (st : ObjectStore) : LaneStep l st l.restart st := by
  unfold Lane.restart
  split
  · exact .refl l st
  · exact .of_same st rfl rfl rfl fun initial => by rw [initial]; rfl

/-- A service's lanes are restarted one after the other (R138). -/
theorem State.restartCarousel_keepsStore (i : Fin 32) :
    s.KeepsStore (s.withCarousels (updateAt s.carousels i Carousel.restart)) := by
  have both : s.withCarousels (updateAt s.carousels i Carousel.restart)
      = (s.setLane i .text (s.lane i .text).restart).setLane i .picture
        ((s.setLane i .text (s.lane i .text).restart).lane i .picture).restart := by
    rw [State.picture_setLane_text]
    simp only [State.setLane, State.withCarousels_carousels, State.withCarousels_twice, updateAt_updateAt]
    rfl
  rw [both]
  exact (State.KeepsStore.of_setLane (.restart _ _)).trans (.of_setLane (.restart _ _))

theorem State.restartLanes_keepsStore (returned : List (Fin 32)) :
    s.KeepsStore (s.withCarousels (restartLanes s.carousels returned)) := by
  induction returned generalizing s with
  | nil => exact .of_view rfl
  | cons i rest ih => exact (s.restartCarousel_keepsStore i).trans (ih _)

theorem State.startFrame_keepsStore : s.KeepsStore s.startFrame.1 :=
  (s.restartLanes_keepsStore _).trans (.of_view (State.raiseAll_storeView _ _))

theorem framePull_keepsStore : s.KeepsStore (framePull s) := by
  have sends (o : Output) : s.KeepsStore (s.startFrame.1.withOutput o) :=
    s.startFrame_keepsStore.trans (.of_view rfl)
  unfold framePull
  split
  · exact .refl s
  · exact sends _
  · exact .of_view rfl
  · unfold State.answerPull
    repeat' split
    · exact sends _
    · exact sends _
    · exact .of_view rfl
    · exact .refl s

/-! ### RESTART and power (R118, R119, R139) -/

/-- With every lane EMPTY and no reference left, the references keep their law. -/
theorem referenceLaw_of_initial {s : State} (lanes : s.carousels = Vector.replicate 32 Carousel.initial)
    (none_left : ∀ o, s.store.referencesTo o = 0) : ReferenceLaw s := by
  rw [referenceLaw_iff, lanes, show entriesInUse (Vector.replicate 32 Carousel.initial) = [] from
    reset_entriesInUse]
  exact .of_none none_left

theorem ObjectStore.restart_referencesTo (st : ObjectStore) (o : Fin 128) :
    st.restart.referencesTo o = 0 := by
  have after := st.restart_objects o
  cases held : st.objects[o] with
  | none => exact ObjectStore.referencesTo_none (after.trans (by rw [held]; rfl))
  | some x =>
    rw [held, restartedObject] at after
    split at after
    · exact ObjectStore.referencesTo_none after
    · exact ObjectStore.referencesTo_some after

theorem State.restart_store (tag : Octet) : (s.restart tag).store = s.store.restart := by
  simp only [State.restart]

theorem State.restart_keepsStore (tag : Octet) : s.KeepsStore (s.restart tag) where
  store := by
    rw [State.restart_store]
    exact s.store.restart_keepsStore
  lanes _ i k := by
    rw [s.restart_lane tag i k]
    exact laneLaw_initial
  references _ _ := referenceLaw_of_initial (s := s.restart tag) rfl fun o => by
    rw [State.restart_store]
    exact s.store.restart_referencesTo o

theorem restartRequest_keepsStore : s.KeepsStore (restartRequest s) := by
  unfold restartRequest restartReady
  repeat' split
  · exact .refl s
  · exact .of_view rfl
  · exact .of_view rfl
  · exact .of_view rfl
  · rename_i r rest _ _ _ _ _
    exact .trans (t := s.withControl rest) (.of_view rfl) (State.restart_keepsStore _ _)

theorem restartAfterAssembly_keepsStore : s.KeepsStore (restartAfterAssembly s) := by
  unfold restartAfterAssembly
  repeat' split
  · exact .refl s
  · exact .refl s
  · exact s.restart_keepsStore _

theorem State.started_keepsStore (c : Control) (t : TemplateStore) (p : Bool) :
    s.KeepsStore (s.started c t p) where
  store := ⟨fun _ => rfl, fun _ => ObjectStore.initial_paged, fun _ => ObjectStore.initial_sound⟩
  lanes _ i k := by
    rw [s.started_lane c t p i k]
    exact laneLaw_initial
  references _ _ := referenceLaw_of_initial rfl reset_referencesTo

end Owners

/-! ### Every command -/

section Commands

variable {s t : State}

theorem execTriggerRawChange_keepsStore {n : Fin 4} {level : PinLevel}
    (h : execTriggerRawChange n level s = .next t) : s.KeepsStore t := by
  unfold execTriggerRawChange at h
  split at h
  · exact event_keepsStore_of_view (triggerRawChange_storeView · n level) h
  · cases h
    exact .of_view rfl

/-- Every command, by the lemma on its own work. -/
theorem exec_keepsStore (c : Instr) (h : exec c s = .next t) : s.KeepsStore t := by
  cases c with
  | powerOn straps => cases h; exact s.started_keepsStore _ _ _
  | hardReset straps =>
    change Host.Outcome.next _ = _ at h
    split at h
    all_goals cases h
    · exact s.started_keepsStore _ _ _
    · exact .refl _
  | lossOfPower => cases h; exact s.started_keepsStore _ _ _
  | objOpen => exact request_keepsStore objOpen_keepsStore h
  | objLoad => exact request_keepsStore objLoad_keepsStore h
  | objClose => exact request_keepsStore objClose_keepsStore h
  | objDrop => exact request_keepsStore objDrop_keepsStore h
  | objRead => exact request_keepsStore objRead_keepsStore h
  | storeClear => exact request_keepsStore storeClear_keepsStore h
  | carAdd => exact request_keepsStore carAdd_keepsStore h
  | carRemove => exact request_keepsStore carRemove_keepsStore h
  | carClear => exact request_keepsStore carClear_keepsStore h
  | carResume => exact request_keepsStore carResume_keepsStore h
  | svcDrop => exact request_keepsStore svcDrop_keepsStore h
  | bitFault page group bits => exact event_keepsStore (bitFault_keepsStore s page group bits) h
  | cellRequest => exact event_keepsStore (cellRequest_keepsStore s) h
  | framePull => exact event_keepsStore (framePull_keepsStore s) h
  | restart => exact event_keepsStore (restartRequest_keepsStore s) h
  | restartAfterAssembly => exact event_keepsStore (restartAfterAssembly_keepsStore s) h
  | svcRead | planRead | outputRead | directoryRead | storeStatus | carRead | tplRead | trigRead
  | alertList | pendingRead | status | linkRead =>
    exact request_keepsStore_of_view (fun _ _ => rfl) h
  | svcSet => exact request_keepsStore_of_view svcSet_storeView h
  | planEdit => exact request_keepsStore_of_view planEdit_storeView h
  | planCopy => exact request_keepsStore_of_view planCopy_storeView h
  | planCommit => exact request_keepsStore_of_view planCommit_storeView h
  | planWithdraw => exact request_keepsStore_of_view planWithdraw_storeView h
  | portSet => exact request_keepsStore_of_view portSet_storeView h
  | portRenegotiate => exact request_keepsStore_of_view portRenegotiate_storeView h
  | portRead => exact request_keepsStore_of_view portRead_storeView h
  | tplErase => exact request_keepsStore_of_view tplErase_storeView h
  | tplWrite => exact request_keepsStore_of_view tplWrite_storeView h
  | tplLock => exact request_keepsStore_of_view tplLock_storeView h
  | tplUnlock => exact request_keepsStore_of_view tplUnlock_storeView h
  | trigSet => exact request_keepsStore_of_view trigSet_storeView h
  | cueSet => exact request_keepsStore_of_view cueSet_storeView h
  | cueRead => exact request_keepsStore_of_view cueRead_storeView h
  | alertRaise => exact request_keepsStore_of_view alertRaise_storeView h
  | alertClear => exact request_keepsStore_of_view alertClear_storeView h
  | reportSet => exact request_keepsStore_of_view reportSet_storeView h
  | messageReceived octets => exact event_keepsStore_of_view (messageReceived_storeView · octets) h
  | transmitterFree => exact event_keepsStore_of_view transmitterFree_storeView h
  | unknownKind => exact event_keepsStore_of_view unknownKind_storeView h
  | startingEnd => exact event_keepsStore_of_view startingEnd_storeView h
  | streamTake => exact event_keepsStore_of_view streamTake_storeView h
  | alertCellRequest => exact event_keepsStore_of_view alertCellRequest_storeView h
  | frameAssemblyComplete => exact event_keepsStore_of_view frameAssemblyComplete_storeView h
  | outputTransmissionEnd => exact event_keepsStore_of_view outputTransmissionEnd_storeView h
  | stallTimerExpiry => exact event_keepsStore_of_view stallTimerExpiry_storeView h
  | offerWordReceived n octets | contributionFrame n octets =>
    exact event_keepsStore_of_view (lineOctets_storeView · octets n) h
  | offerWordPeriod n => exact event_keepsStore_of_view (offerWordPeriod_storeView · n) h
  | listenTimerExpiry n => exact event_keepsStore_of_view (listenTimerExpiry_storeView · n) h
  | linkTimerExpiry n => exact event_keepsStore_of_view (linkTimerExpiry_storeView · n) h
  | triggerRawChange n level => exact execTriggerRawChange_keepsStore h
  | filterTimerExpiry n => exact event_keepsStore_of_view (filterTimerExpiry_storeView · n) h
  | alertTimerExpiry n => exact event_keepsStore_of_view (alertTimerExpiry_storeView · n) h
  | eraseEnd => exact event_keepsStore_of_view eraseEnd_storeView h
  | writeEnd => exact event_keepsStore_of_view writeEnd_storeView h

theorem step_keepsStore (h : step s = .next t) : s.KeepsStore t := by
  unfold step at h
  split at h
  · cases h
    split <;> exact .of_view rfl
  · rename_i c rest _
    exact .trans (t := s.withPending rest) (.of_view rfl) (exec_keepsStore c h)

end Commands

end Sys2Proof.Machine

open Sys2Proof Sys2Proof.Machine

/-- Settles O59: each law through what every step keeps of the store and of the lanes. -/
theorem storeLawsKept : Obligations.StoreLawsKept := by
  intro s t h
  have keeps := step_keepsStore h
  rw [pageLaw_iff, pageLaw_iff, objectLaw_iff, objectLaw_iff]
  exact ⟨keeps.store.memory, keeps.store.pages, keeps.store.objects, keeps.lanes, keeps.references⟩

end

section
/-! PROOFS. Groups of the object store: what a write and a bit fault leave, and what a read gives
(R101, R111, R112). -/

namespace Sys2Proof.Machine

/-! ### A group written (R101) -/

section Groups

variable {st : ObjectStore} {key : Nat} {b : Octets}

/-- The page memory after a group was written. -/
theorem ObjectStore.read_writeGroup (h : Memory.wf st.memory = true) (length : b.length = 16) (a : Nat) :
    Memory.read (st.writeGroup key b).memory a
      = if a / 16 = key then b.getD (a % 16) 0 else Memory.read st.memory a := by
  refine (Memory.read_writeAll h a).trans ?_
  by_cases inside : a / 16 = key
  · rw [if_pos (by omega), if_pos inside, show a - 16 * key = a % 16 by omega]
  · rw [if_neg (by omega), if_neg inside]

theorem ObjectStore.mem_differing_writeGroup {d : Nat × Nat} :
    d ∈ (st.writeGroup key b).differing ↔ d ∈ st.differing ∧ d.1 ≠ key := by
  simp [ObjectStore.writeGroup]

/-- A write of a group changes its octets and marks, and nothing else of the store. -/
theorem ObjectStore.writeGroup_kept (st : ObjectStore) (key : Nat) (b : Octets) :
    (st.writeGroup key b).objects = st.objects ∧ (st.writeGroup key b).free = st.free ∧
      (st.writeGroup key b).corrected = st.corrected ∧
      (st.writeGroup key b).uncorrectable = st.uncorrectable ∧
      (st.writeGroup key b).correctedCapture = st.correctedCapture ∧
      (st.writeGroup key b).uncorrectableCapture = st.uncorrectableCapture :=
  ⟨rfl, rfl, rfl, rfl, rfl, rfl⟩

theorem ObjectStore.mem_differs {bit : Nat} : bit ∈ st.differs key ↔ (key, bit) ∈ st.differing := by
  simp [ObjectStore.differs]

theorem ObjectStore.differs_writeGroup_same : (st.writeGroup key b).differs key = [] :=
  List.eq_nil_iff_forall_not_mem.mpr fun _ written =>
    (ObjectStore.mem_differing_writeGroup.mp (ObjectStore.mem_differs.mp written)).2 rfl

theorem ObjectStore.differs_writeGroup_other {g : Nat} (other : g ≠ key) :
    (st.writeGroup key b).differs g = st.differs g := by
  simp only [ObjectStore.differs, ObjectStore.writeGroup, List.filter_filter]
  refine congrArg (List.map Prod.snd) (List.filter_congr fun d _ => ?_)
  by_cases here : d.1 = g
  · simp [here, other]
  · simp [here]

@[simp] theorem ObjectStore.stands_length (st : ObjectStore) (key : Nat) : (st.stands key).length = 16 := by
  simp [ObjectStore.stands, Memory.readAll]

theorem ObjectStore.stands_congr {u : ObjectStore} (h : u.memory = st.memory) (key : Nat) :
    u.stands key = st.stands key := by rw [ObjectStore.stands, ObjectStore.stands, h]

theorem ObjectStore.differs_congr {u : ObjectStore} (h : u.differing = st.differing) (key : Nat) :
    u.differs key = st.differs key := by rw [ObjectStore.differs, ObjectStore.differs, h]

/-- The octets of a group, one by one. -/
theorem ObjectStore.stands_getD (st : ObjectStore) (key : Nat) {j : Nat} (h : j < 16) :
    (st.stands key).getD j 0 = Memory.read st.memory (16 * key + j) := by
  simp [ObjectStore.stands, Memory.readAll, List.getD_eq_getElem?_getD, h]

/-- A group written stands as written. -/
theorem ObjectStore.stands_writeGroup (h : Memory.wf st.memory = true) (length : b.length = 16) :
    (st.writeGroup key b).stands key = b := by
  refine List.ext_getElem (by rw [ObjectStore.stands_length, length]) fun j hj hb => ?_
  rw [ObjectStore.stands_length] at hj
  have octet := (ObjectStore.stands_getD (st.writeGroup key b) key hj).trans
    (ObjectStore.read_writeGroup h length _)
  rw [if_pos (by omega), show (16 * key + j) % 16 = j by omega] at octet
  simpa [List.getD_eq_getElem?_getD, length, hj] using octet

end Groups

/-! ### Bits that change by themselves (R101) -/

section BitFaults

variable {st : ObjectStore} {key bit : Nat}

theorem getLsbD_twoPow_octet {n k : Nat} (hk : k < 8) :
    (BitVec.ofNat 8 (2 ^ n)).getLsbD k = decide (n = k) := by
  rw [BitVec.getLsbD_ofNat, Nat.testBit_two_pow]
  simp [hk]

theorem ObjectStore.flipBit_octet (h : Memory.wf st.memory = true) {j k : Nat} (hj : j < 16) (hk : k < 8) :
    (Memory.read (st.flipBit key bit).memory (16 * key + j)).getLsbD k
      = ((Memory.read st.memory (16 * key + j)).getLsbD k ^^ decide (8 * j + k = bit)) := by
  unfold ObjectStore.flipBit
  dsimp only
  by_cases octets : bit < 128
  · rw [if_pos octets, Memory.read_write h]
    by_cases here : j = bit / 8
    · rw [← here, if_pos rfl, BitVec.getLsbD_xor, getLsbD_twoPow_octet hk]
      congr 1
      exact decide_eq_decide.mpr (by omega)
    · rw [if_neg (by omega), decide_eq_false (by omega), Bool.xor_false]
  · rw [if_neg octets, decide_eq_false (by omega), Bool.xor_false]

theorem ObjectStore.flipBit_elsewhere (h : Memory.wf st.memory = true) {a : Nat} (other : a / 16 ≠ key) :
    Memory.read (st.flipBit key bit).memory a = Memory.read st.memory a := by
  unfold ObjectStore.flipBit
  dsimp only
  split
  · rw [Memory.read_write h, if_neg (by omega)]
  · rfl

/-- A bit that differed does so no more, and one that did not does. -/
theorem ObjectStore.mem_differing_flipBit (once : st.differing.Nodup) (d : Nat × Nat) :
    d ∈ (st.flipBit key bit).differing ↔
      if d = (key, bit) then d ∉ st.differing else d ∈ st.differing := by
  unfold ObjectStore.flipBit
  dsimp only
  by_cases here : d = (key, bit)
  · subst here
    split
    · rename_i differs
      simp [once.mem_erase_iff, differs]
    · rename_i same
      simp [same]
  · split
    · simp [once.mem_erase_iff, here]
    · simp [here]

/-- The bits of a list changed in one group, one after the other. -/
def ObjectStore.flipAll (st : ObjectStore) (key : Nat) (bits : List Nat) : ObjectStore :=
  bits.foldl (fun st b => st.flipBit key b) st

theorem bitFault_eq (page : Fin 1024) (group : Fin 32) (bits : List Nat) (s : State) :
    bitFault page group bits s = s.withStore (s.store.flipAll (32 * page.val + group.val) bits) := rfl

/-- Only the memory and the marks change. -/
theorem ObjectStore.flipAll_eq (st : ObjectStore) (key : Nat) (bits : List Nat) :
    ∃ memory differing, st.flipAll key bits = { st with memory := memory, differing := differing } := by
  induction bits generalizing st with
  | nil => exact ⟨_, _, rfl⟩
  | cons b rest ih =>
    obtain ⟨memory, differing, after⟩ := ih (st.flipBit key b)
    exact ⟨memory, differing, after⟩

theorem ObjectStore.flipAll_octet {bits : List Nat} (once : bits.Nodup) (h : Memory.wf st.memory = true)
    {j k : Nat} (hj : j < 16) (hk : k < 8) :
    (Memory.read (st.flipAll key bits).memory (16 * key + j)).getLsbD k
      = ((Memory.read st.memory (16 * key + j)).getLsbD k ^^ decide (8 * j + k ∈ bits)) := by
  induction bits generalizing st with
  | nil => simp [ObjectStore.flipAll]
  | cons b rest ih =>
    obtain ⟨new, others⟩ := List.nodup_cons.mp once
    refine (ih others (st.flipBit_wf h key b)).trans ?_
    rw [ObjectStore.flipBit_octet h hj hk, Bool.xor_assoc]
    congr 1
    by_cases first : 8 * j + k = b
    · simp [first, new]
    · simp [first]

theorem ObjectStore.flipAll_elsewhere (bits : List Nat) (h : Memory.wf st.memory = true) {a : Nat}
    (other : a / 16 ≠ key) :
    Memory.read (st.flipAll key bits).memory a = Memory.read st.memory a := by
  induction bits generalizing st with
  | nil => rfl
  | cons b rest ih => exact (ih (st.flipBit_wf h key b)).trans (ObjectStore.flipBit_elsewhere h other)

theorem ObjectStore.mem_differing_flipAll {bits : List Nat} (once : bits.Nodup)
    (marks : st.differing.Nodup) (g b : Nat) :
    (g, b) ∈ (st.flipAll key bits).differing ↔
      if g = key ∧ b ∈ bits then (g, b) ∉ st.differing else (g, b) ∈ st.differing := by
  induction bits generalizing st with
  | nil => simp [ObjectStore.flipAll]
  | cons c rest ih =>
    obtain ⟨new, others⟩ := List.nodup_cons.mp once
    have kept : (st.flipBit key c).differing.Nodup := by
      unfold ObjectStore.flipBit
      dsimp only
      split
      · exact marks.erase _
      · rename_i unmarked
        exact List.nodup_cons.mpr ⟨unmarked, marks⟩
    refine (ih others kept).trans ?_
    simp only [ObjectStore.mem_differing_flipBit marks, Prod.mk.injEq, List.mem_cons]
    by_cases first : b = c
    · subst first
      simp [new]
    · simp [first]

end BitFaults

/-! ### A group read (R101, R111, R112) -/

section Reading

variable {st : ObjectStore} {o : Fin 128} {key b c : Nat}

theorem ObjectStore.readGroup_clean (h : st.differs key = []) :
    st.readGroup key = (.clean, st.stands key) := by simp only [ObjectStore.readGroup, h]

theorem ObjectStore.readGroup_one (h : st.differs key = [b]) :
    st.readGroup key = (.correctable, flipBits (st.stands key) [b]) := by
  simp only [ObjectStore.readGroup, h]

theorem ObjectStore.readGroup_two (h : st.differs key = [b, c]) :
    st.readGroup key = (.uncorrectable, st.stands key) := by simp only [ObjectStore.readGroup, h]

theorem ObjectStore.readFor_clean (h : st.differs key = []) :
    st.readFor o key = { store := st, octets := st.stands key, bad := false, events := [] } := by
  simp only [ObjectStore.readFor, ObjectStore.readGroup_clean h]

/-- The store after a correctable group was put right: counted, and captured if no capture is valid. -/
def ObjectStore.countCorrected (st : ObjectStore) (o : Fin 128) (key : Nat) : ObjectStore :=
  { st with
    corrected := satInc st.corrected
    correctedCapture := st.correctedCapture.or (some (Capture.of key o)) }

theorem ObjectStore.countCorrected_stands (st : ObjectStore) (o : Fin 128) (key g : Nat) :
    (st.countCorrected o key).stands g = st.stands g := ObjectStore.stands_congr rfl g

theorem ObjectStore.countCorrected_differs (st : ObjectStore) (o : Fin 128) (key g : Nat) :
    (st.countCorrected o key).differs g = st.differs g := ObjectStore.differs_congr rfl g

/-- A capture that is valid stays (R111, R112). -/
theorem capture_or (old : Option Capture) (new : Capture) :
    old.or (some new) = match old with | some c => some c | none => some new := by
  cases old <;> rfl

theorem ObjectStore.readFor_one (h : st.differs key = [b]) :
    st.readFor o key =
      { store := (st.writeGroup key (flipBits (st.stands key) [b])).countCorrected o key
        octets := flipBits (st.stands key) [b]
        bad := false
        events := [(.storeCorrected, (Capture.of key o).detail)] } := by
  obtain ⟨_, _, corrected, _, capture, _⟩ := st.writeGroup_kept key (flipBits (st.stands key) [b])
  simp only [ObjectStore.readFor, ObjectStore.readGroup_one h, ObjectStore.countCorrected, corrected, capture]

/-- The store after an uncorrectable group was read: counted, and captured if no capture is valid. -/
def ObjectStore.countUncorrectable (st : ObjectStore) (o : Fin 128) (key : Nat) : ObjectStore :=
  { st with
    uncorrectable := satInc st.uncorrectable
    uncorrectableCapture := st.uncorrectableCapture.or (some (Capture.of key o)) }

theorem ObjectStore.countUncorrectable_eq (st : ObjectStore) (o : Fin 128) (key : Nat) :
    st.countUncorrectable o key =
      { st with
        uncorrectable := satInc st.uncorrectable
        uncorrectableCapture :=
          match st.uncorrectableCapture with
          | some d => some d
          | none => some { page := key / 32, group := key % 32, object := o.val + 1 } } := by
  rw [ObjectStore.countUncorrectable, capture_or]
  rfl

theorem ObjectStore.readFor_two (h : st.differs key = [b, c]) :
    st.readFor o key =
      { store := st.countUncorrectable o key, octets := st.stands key, bad := true, events := [] } := by
  simp only [ObjectStore.readFor, ObjectStore.readGroup_two h]
  rfl

theorem ObjectStore.fetchGroup_clean (h : st.differs key = []) :
    st.fetchGroup o key = { store := st, octets := st.stands key, bad := false, events := [] } := by
  simp [ObjectStore.fetchGroup, ObjectStore.readFor_clean h]

/-- An uncorrectable group met by a fetch faults the READY object it is read for (R112). -/
theorem ObjectStore.fetchGroup_two {x : StoredObject} (h : st.differs key = [b, c])
    (held : st.objects[o] = some x) (ready : x.state = .ready) :
    st.fetchGroup o key =
      { store := (st.countUncorrectable o key).setObject o (some { x with state := .faulted })
        octets := st.stands key
        bad := true
        events := [(.objectFaulted, (Capture.of key o).detail)] } := by
  have same : (st.countUncorrectable o key).objects[o] = some x := held
  simp only [ObjectStore.fetchGroup, ObjectStore.readFor_two h, if_true, ObjectStore.faultObject, same,
    ready, List.nil_append]

theorem flipBits_octet (octets : Octets) (h : octets.length = 16) :
    (b < 128 → flipBits octets [b] = octets.modify (b / 8) fun v => v ^^^ BitVec.ofNat 8 (2 ^ (b % 8))) ∧
      (128 ≤ b → flipBits octets [b] = octets) := by
  refine ⟨fun _ => List.ext_getElem? fun j => ?_, fun code => List.ext_getElem? fun j => ?_⟩
  · rw [flipBits, List.getElem?_mapIdx, List.getElem?_modify]
    by_cases here : b / 8 = j
    · simp [bitMask, here]
    · simp [bitMask, here]
  · rw [flipBits, List.getElem?_mapIdx]
    by_cases inside : j < octets.length
    · simp [bitMask, show b / 8 ≠ j by omega]
    · simp [inside]

@[simp] theorem flipBits_length (octets : Octets) (bits : List Nat) :
    (flipBits octets bits).length = octets.length := by simp [flipBits]

end Reading

end Sys2Proof.Machine

open Sys2Proof Sys2Proof.Machine

/-- Settles O42. -/
theorem storeClear : Obligations.StoreClear := fun _ _ _ h kind body =>
  exec_request_of h kind body rfl rfl rfl

/-- Settles O43: by induction on the bits, one change at a time. -/
theorem bitFaultChangesItsBits : Obligations.BitFaultChangesItsBits := by
  intro s page group bits on once memory marks
  obtain ⟨m, d, after⟩ := s.store.flipAll_eq (32 * page.val + group.val) bits
  refine ⟨s.store.flipAll (32 * page.val + group.val) bits, (event_on on).trans (by rw [bitFault_eq]),
    fun j k hj hk => ObjectStore.flipAll_octet once memory hj hk,
    fun a other => ObjectStore.flipAll_elsewhere bits memory other,
    ObjectStore.mem_differing_flipAll once marks, ?_⟩
  rw [after]
  exact ⟨rfl, rfl, rfl, rfl, rfl, rfl⟩

/-- Settles O35: each case by what a read leaves and gives. -/
theorem groupReadsByDamage : Obligations.GroupReadsByDamage := by
  intro st o key memory
  refine ⟨fun clean => ?_, fun b one => ?_, fun b c two => ?_⟩
  · rw [ObjectStore.readFor_clean clean]
    exact ⟨rfl, rfl, rfl, rfl⟩
  · have length : (flipBits (st.stands key) [b]).length = 16 := by simp
    obtain ⟨octet, code⟩ := flipBits_octet (b := b) (st.stands key) (st.stands_length key)
    have stands := ObjectStore.stands_writeGroup (key := key) memory length
    have differs := ObjectStore.differs_writeGroup_same (st := st) (key := key)
      (b := flipBits (st.stands key) [b])
    have others (g : Nat) (other : g ≠ key) := ObjectStore.differs_writeGroup_other (st := st)
      (b := flipBits (st.stands key) [b]) other
    have elsewhere (a : Nat) (other : a / 16 ≠ key) :=
      (ObjectStore.read_writeGroup (key := key) memory length a).trans (if_neg other)
    have kept := st.writeGroup_kept key (flipBits (st.stands key) [b])
    rw [ObjectStore.readFor_one one]
    generalize st.writeGroup key (flipBits (st.stands key) [b]) = u at *
    obtain ⟨objects, free, corrected, uncorrectable, correctedCapture, uncorrectableCapture⟩ := kept
    dsimp only
    refine ⟨_, rfl, rfl, octet, code, ?_, ?_, ?_, uncorrectable, ?_, uncorrectableCapture, objects, free,
      elsewhere, fun g other => ?_, rfl⟩
    · rw [ObjectStore.countCorrected_stands, stands]
    · rw [ObjectStore.countCorrected_differs, differs]
    · rw [← corrected, ObjectStore.countCorrected]
    · rw [← correctedCapture]
      exact capture_or _ _
    · rw [ObjectStore.countCorrected_differs, others g other]
  · rw [ObjectStore.readFor_two two]
    refine ⟨st.countUncorrectable o key, st.countUncorrectable_eq o key, rfl, rfl, rfl,
      fun x held ready => ?_⟩
    rw [ObjectStore.fetchGroup_two two held ready]
    exact ⟨rfl, rfl, rfl⟩

end

section
/-! PROOFS. The requests on objects: OBJ_OPEN, OBJ_LOAD, OBJ_CLOSE, OBJ_READ and STORE_STATUS (R102 to R107,
R113 to R116). -/

namespace Sys2Proof.Machine

/-! ### Bodies read -/

theorem objectIndex?_number (o : Fin 128) (b : Octets) :
    objectIndex? (field (octet (o.val + 1) :: b) 0) = some o := by
  rw [field_zero, octet_toNat (by omega), objectIndex?, if_neg (Nat.succ_ne_zero _), Nat.add_sub_cancel,
    toFin?_val]

theorem field16_be16_only {n : Nat} (h : n < 65536) : field16 (be16 n) 0 = n := field16_be16 h []

/-! ### OBJ_OPEN (R104) -/

section Opening

variable {st : ObjectStore} {o : Fin 128} {kind : ObjectKind} {length : Nat}

theorem ObjectStore.lowestFree_eq (empty : st.objects[o] = none)
    (lowest : ∀ j : Fin 128, j < o → st.objects[j] ≠ none) : st.lowestFree = some o := by
  refine List.find?_eq_some_iff_getElem.mpr ⟨Option.isNone_iff_eq_none.mpr empty, o.val, by simp, by simp,
    fun j before => ?_⟩
  have used := lowest ⟨j, before.trans o.isLt⟩ before
  simpa [Option.isSome_iff_ne_none] using used

/-- Octets dropped by their addresses read as octets that nothing has written. -/
theorem Memory.read_filter_address (m : Memory) (p : Nat → Bool) (a : Nat) :
    Memory.read (m.filter fun c => p c.1) a = if p a then Memory.read m a else Memory.unlisted := by
  induction m with
  | nil => simp [Memory.read]
  | cons c rest ih =>
    obtain ⟨b, v⟩ := c
    by_cases here : a = b
    · subst here
      by_cases kept : p a = true
      · simp [kept, Memory.read]
      · rw [List.filter_cons_of_neg (by simpa using kept), ih, if_neg kept, if_neg kept]
    · rw [List.filter_cons]
      split
      · rw [Memory.read, if_neg here, ih, Memory.read, if_neg here]
      · rw [ih, Memory.read, if_neg here]

theorem ObjectStore.read_openObject (a : Nat) :
    Memory.read (st.openObject o kind length).memory a =
      if a / 512 ∈ st.free.take (pagesFor length) then 0 else Memory.read st.memory a := by
  refine (Memory.read_filter_address st.memory
    (fun b => !(st.free.take (pagesFor length)).contains (b / 512)) a).trans ?_
  by_cases cleared : a / 512 ∈ st.free.take (pagesFor length)
  · simp [cleared, Memory.unlisted]
  · simp [cleared]

theorem ObjectStore.mem_differing_openObject (d : Nat × Nat) :
    d ∈ (st.openObject o kind length).differing ↔
      d ∈ st.differing ∧ d.1 / 32 ∉ st.free.take (pagesFor length) := by
  simp [ObjectStore.openObject, ObjectStore.clearPages]

theorem ObjectKind.limit_eq (kind : ObjectKind) : kind.limit = if kind = .text then 160 else 49152 := by
  cases kind <;> rfl

/-- What OBJ_OPEN does with the lowest FREE object, where there are pages and where there are not. -/
theorem objOpen_lowest {s : State} (least : 1 ≤ length) (limit : length ≤ kind.limit)
    (lowest : s.store.lowestFree = some o) :
    objOpen ((if kind = .text then 1 else 2) :: be16 length) s =
      if s.store.free.length < pagesFor length then (s, .plain .storeFull)
      else (s.withStore (s.store.openObject o kind length),
        .done [octet (o.val + 1), octet (pagesFor length)]) := by
  have operand : objectKindOperand (field ((if kind = .text then 1 else 2) :: be16 length) 0) = some kind := by
    cases kind <;> rfl
  have size : field16 ((if kind = .text then 1 else 2) :: be16 length) 1 = length := by
    refine field16_be16_only (limit.trans_lt ?_)
    cases kind <;> decide
  simp only [objOpen, operand, size, lowest]
  rw [if_neg (by omega)]
  rfl

end Opening

/-! ### Groups written in a row (R106) -/

section Writing

variable {st : ObjectStore} {pages : List Nat} {b : Octets}

/-- Within an object's pages no two groups have one key. -/
theorem groupKey_inj (once : pages.Nodup) {g h : Nat} (hg : g < 32 * pages.length)
    (hh : h < 32 * pages.length) (same : groupKey pages g = groupKey pages h) : g = h := by
  have hg' : g / 32 < pages.length := by omega
  have hh' : h / 32 < pages.length := by omega
  simp only [groupKey, List.getD_eq_getElem _ _ hg', List.getD_eq_getElem _ _ hh'] at same
  have page : pages[g / 32] = pages[h / 32] := by omega
  have place := (once.getElem_inj_iff).mp page
  omega

/-- Groups written one after the other leave every other octet. -/
theorem ObjectStore.read_writeGroups_elsewhere {n g a : Nat} (memory : Memory.wf st.memory = true)
    (length : 16 * n ≤ b.length) (other : ∀ i < n, a / 16 ≠ groupKey pages (g + i)) :
    Memory.read (st.writeGroups pages g b n).memory a = Memory.read st.memory a := by
  induction n generalizing st g b with
  | zero => rfl
  | succ n ih =>
    have rest (i : Nat) (hi : i < n) : a / 16 ≠ groupKey pages (g + 1 + i) := by
      rw [Nat.add_assoc, Nat.add_comm 1]
      exact other (i + 1) (Nat.succ_lt_succ hi)
    have first := ObjectStore.read_writeGroup (key := groupKey pages g) (b := b.take 16) memory
      (by rw [List.length_take]; omega) a
    rw [if_neg (by simpa using other 0 n.succ_pos)] at first
    exact (ih (st.writeGroup_wf memory _ _) (by rw [List.length_drop]; omega) rest).trans first

/-- Each of them holds its 16 octets, where no two have one key. -/
theorem ObjectStore.read_writeGroups {n g : Nat} (memory : Memory.wf st.memory = true)
    (length : 16 * n ≤ b.length)
    (apart : ∀ i < n, ∀ j < n, groupKey pages (g + i) = groupKey pages (g + j) → i = j)
    {i j : Nat} (hi : i < n) (hj : j < 16) :
    Memory.read (st.writeGroups pages g b n).memory (16 * groupKey pages (g + i) + j)
      = b.getD (16 * i + j) 0 := by
  induction n generalizing st g b i with
  | zero => exact absurd hi (Nat.not_lt_zero i)
  | succ n ih =>
    have written : (b.take 16).length = 16 := by rw [List.length_take]; omega
    have left : 16 * n ≤ (b.drop 16).length := by rw [List.length_drop]; omega
    have kept := st.writeGroup_wf memory (groupKey pages g) (b.take 16)
    have shift (k : Nat) : g + 1 + k = g + (k + 1) := by omega
    cases i with
    | zero =>
      have later (k : Nat) (hk : k < n) :
          (16 * groupKey pages (g + 0) + j) / 16 ≠ groupKey pages (g + 1 + k) := fun same => by
        have key : groupKey pages (g + 0) = groupKey pages (g + (k + 1)) := by
          rw [← shift, ← same]
          omega
        cases apart 0 n.succ_pos (k + 1) (Nat.succ_lt_succ hk) key
      refine (ObjectStore.read_writeGroups_elsewhere kept left later).trans ?_
      rw [ObjectStore.read_writeGroup memory written, if_pos (by rw [Nat.add_zero]; omega),
        show (16 * groupKey pages (g + 0) + j) % 16 = j by omega]
      simp [List.getD_eq_getElem?_getD, hj]
    | succ i =>
      have others (k : Nat) (hk : k < n) (m : Nat) (hm : m < n)
          (same : groupKey pages (g + 1 + k) = groupKey pages (g + 1 + m)) : k = m := by
        rw [shift, shift] at same
        exact Nat.succ.inj (apart (k + 1) (Nat.succ_lt_succ hk) (m + 1) (Nat.succ_lt_succ hm) same)
      have next := ih kept left others (Nat.lt_of_succ_lt_succ hi)
      rw [shift] at next
      refine next.trans ?_
      rw [List.getD_eq_getElem?_getD, List.getElem?_drop, List.getD_eq_getElem?_getD,
        show 16 + (16 * i + j) = 16 * (i + 1) + j by omega]

theorem ObjectStore.mem_differing_writeGroups {n g : Nat} (d : Nat × Nat) :
    d ∈ (st.writeGroups pages g b n).differing ↔
      d ∈ st.differing ∧ ∀ i < n, d.1 ≠ groupKey pages (g + i) := by
  induction n generalizing st g b with
  | zero => exact ⟨fun h => ⟨h, nofun⟩, And.left⟩
  | succ n ih =>
    refine ih.trans ?_
    rw [ObjectStore.mem_differing_writeGroup, and_assoc]
    refine and_congr_right fun _ => ⟨fun ⟨first, rest⟩ i hi => ?_, fun all => ⟨all 0 n.succ_pos, ?_⟩⟩
    · cases i with
      | zero => exact first
      | succ i =>
        rw [Nat.add_comm i, ← Nat.add_assoc]
        exact rest i (Nat.lt_of_succ_lt_succ hi)
    · intro i hi
      rw [Nat.add_assoc, Nat.add_comm 1]
      exact all (i + 1) (Nat.succ_lt_succ hi)

/-- Nothing but the memory and the marks changes. -/
theorem ObjectStore.writeGroups_eq (st : ObjectStore) (pages : List Nat) (g : Nat) (b : Octets) (n : Nat) :
    ∃ memory differing, st.writeGroups pages g b n
      = { st with memory := memory, differing := differing } := by
  induction n generalizing st g b with
  | zero => exact ⟨_, _, rfl⟩
  | succ n ih =>
    obtain ⟨memory, differing, after⟩ :=
      ih (st.writeGroup (groupKey pages g) (b.take 16)) (g + 1) (b.drop 16)
    exact ⟨memory, differing, after⟩

end Writing

/-! ### OBJ_LOAD and OBJ_CLOSE (R106, R107) -/

section Loading

variable {st : ObjectStore} {o : Fin 128} {x : StoredObject}

theorem ObjectStore.Paged.nodup (h : st.Paged) (held : st.objects[o] = some x) : x.pages.Nodup := by
  have inUse := (List.nodup_append.mp (h.whole.nodup_iff.mpr List.nodup_range)).2.1
  rw [(st.pages_perm o).nodup_iff, ObjectStore.pagesOf_some held] at inUse
  exact (List.nodup_append.mp inUse).1

theorem StoredObject.Sound.tail_loading (h : x.Sound) (loading : x.state = .loading) :
    x.tail.length = x.loaded % 16 := by simpa [loading] using h.tail

theorem StoredObject.Sound.declared_lt (h : x.Sound) : x.declared < 65536 := by
  refine h.limit.trans_lt ?_
  cases x.kind <;> decide

theorem bodyFits_load (n : Nat) : bodyFits 0x41 n = true ↔ 4 ≤ n ∧ n ≤ 1027 := by
  simp [bodyFits, requestRow]

/-- What OBJ_LOAD at the loaded length does. -/
theorem objLoad_next {s : State} (held : s.store.objects[o] = some x) (loading : x.state = .loading)
    {data : Octets} (inside : x.loaded + data.length ≤ x.declared) (sound : x.Sound) :
    objLoad (octet (o.val + 1) :: be16 x.loaded ++ data) s =
      (s.withStore (s.store.load o x data), .done (be16 (x.loaded + data.length))) := by
  have index : objectIndex? (field (octet (o.val + 1) :: be16 x.loaded ++ data) 0) = some o :=
    objectIndex?_number o _
  have offset : field16 (octet (o.val + 1) :: be16 x.loaded ++ data) 1 = x.loaded :=
    field16_be16 (sound.loaded.trans_lt sound.declared_lt) data
  have rest : (octet (o.val + 1) :: be16 x.loaded ++ data).drop 3 = data := rfl
  simp only [objLoad, index, offset, rest, held, loading, ne_eq, not_true, if_false, not_lt.mpr inside]

theorem objClose_loading {s : State} (held : s.store.objects[o] = some x) (loading : x.state = .loading) :
    objClose [octet (o.val + 1)] s =
      if x.loaded < x.declared then (s, .plain .short)
      else (s.withStore (s.store.closeObject o x), .plain .done) := by
  simp only [objClose, objectIndex?_number, held, loading, ne_eq, not_true, if_false]

/-- The group that the tail begins is that of the loaded length. -/
theorem StoredObject.Sound.tail_group (h : x.Sound) (loading : x.state = .loading) :
    (x.loaded - x.tail.length) / 16 = x.loaded / 16 := by
  rw [h.tail_loading loading]
  omega

/-- The store after the last part is written (R107). -/
theorem ObjectStore.closeObject_eq (h : x.Sound) (loading : x.state = .loading) :
    st.closeObject o x =
      (if x.tail = [] then st
        else st.writeGroup (groupKey x.pages (x.loaded / 16)) (padTo 16 x.tail)).setObject o
        (some { x with state := .ready, tail := [] }) := by
  rw [ObjectStore.closeObject, h.tail_group loading]

theorem padTo_getD {n j : Nat} (b : Octets) (h : j < n) : (padTo n b).getD j 0 = b.getD j 0 := by
  rw [padTo, List.getD_eq_getElem?_getD, List.getElem?_take_of_lt h, List.getD_eq_getElem?_getD]
  by_cases inside : j < b.length
  · rw [List.getElem?_append_left inside]
  · rw [List.getElem?_append_right (not_lt.mp inside), List.getElem?_eq_none (not_lt.mp inside),
      List.getElem?_replicate]
    split <;> rfl

/-- How many groups are complete once the data stand behind the tail. -/
theorem StoredObject.Sound.joined_groups (h : x.Sound) (loading : x.state = .loading) (data : Octets) :
    (x.tail ++ data).length / 16 = (x.loaded + data.length) / 16 - x.loaded / 16 := by
  rw [List.length_append, h.tail_loading loading]
  omega

/-- The store after the groups now complete are written (R106). -/
theorem ObjectStore.load_eq (h : x.Sound) (loading : x.state = .loading) (data : Octets) :
    st.load o x data =
      (st.writeGroups x.pages (x.loaded / 16) (x.tail ++ data) ((x.tail ++ data).length / 16)).setObject o
        (some { x with
          loaded := x.loaded + data.length
          tail := (x.tail ++ data).drop (16 * ((x.tail ++ data).length / 16)) }) := by
  rw [ObjectStore.load, h.tail_group loading]

/-- The groups of a loaded length are those written in a row from the group of the tail. -/
theorem forall_group_iff {first last : Nat} (p : Nat → Prop) :
    (∀ i < last - first, p (first + i)) ↔ ∀ g, first ≤ g → g < last → p g := by
  refine ⟨fun all g after before => ?_, fun all i hi => all _ (Nat.le_add_right _ _) (by omega)⟩
  have at_group := all (g - first) (by omega)
  rwa [Nat.add_sub_cancel' after] at at_group

/-- Every octet and mark after OBJ_LOAD at the loaded length. -/
theorem ObjectStore.load_groups (memory : Memory.wf st.memory = true) (sound : x.Sound)
    (once : x.pages.Nodup) (loading : x.state = .loading) {data : Octets}
    (inside : x.loaded + data.length ≤ x.declared) :
    (∀ g j, x.loaded / 16 ≤ g → g < (x.loaded + data.length) / 16 → j < 16 →
      Memory.read (st.load o x data).memory (16 * groupKey x.pages g + j)
        = (x.tail ++ data).getD (16 * (g - x.loaded / 16) + j) 0) ∧
    (∀ a, (∀ g, x.loaded / 16 ≤ g → g < (x.loaded + data.length) / 16 →
        a / 16 ≠ groupKey x.pages g) →
      Memory.read (st.load o x data).memory a = Memory.read st.memory a) ∧
    (∀ d, d ∈ (st.load o x data).differing ↔ d ∈ st.differing ∧
      ∀ g, x.loaded / 16 ≤ g → g < (x.loaded + data.length) / 16 → d.1 ≠ groupKey x.pages g) := by
  have complete : 16 * ((x.tail ++ data).length / 16) ≤ (x.tail ++ data).length := Nat.mul_div_le _ _
  have count := sound.joined_groups loading data
  have within {i : Nat} (hi : i < (x.tail ++ data).length / 16) :
      x.loaded / 16 + i < 32 * x.pages.length := by
    rw [count] at hi
    rw [sound.pages, pagesFor]
    omega
  have apart (i : Nat) (hi : i < (x.tail ++ data).length / 16) (j : Nat)
      (hj : j < (x.tail ++ data).length / 16)
      (same : groupKey x.pages (x.loaded / 16 + i) = groupKey x.pages (x.loaded / 16 + j)) : i = j :=
    Nat.add_left_cancel (groupKey_inj once (within hi) (within hj) same)
  rw [ObjectStore.load_eq sound loading]
  refine ⟨fun g j after before hj => ?_, fun a other => ?_, fun d => ?_⟩
  · have read := ObjectStore.read_writeGroups memory complete apart
      (show g - x.loaded / 16 < (x.tail ++ data).length / 16 by omega) hj
    rwa [Nat.add_sub_cancel' after] at read
  · refine ObjectStore.read_writeGroups_elsewhere memory complete ?_
    rw [count]
    exact (forall_group_iff fun g => a / 16 ≠ groupKey x.pages g).mpr other
  · refine ObjectStore.mem_differing_writeGroups d |>.trans (and_congr_right fun _ => ?_)
    rw [count]
    exact forall_group_iff fun g => d.1 ≠ groupKey x.pages g

/-- Nothing but the object's row, the memory and the marks changes. -/
theorem ObjectStore.load_kept (h : x.Sound) (loading : x.state = .loading) (data : Octets) :
    ∃ memory differing, st.load o x data = { st with
      memory := memory
      differing := differing
      objects := st.objects.set o (some { x with
        loaded := x.loaded + data.length
        tail := (x.tail ++ data).drop (16 * ((x.tail ++ data).length / 16)) }) } := by
  obtain ⟨memory, differing, written⟩ := st.writeGroups_eq x.pages (x.loaded / 16) (x.tail ++ data)
    ((x.tail ++ data).length / 16)
  exact ⟨memory, differing, by rw [ObjectStore.load_eq h loading, written]; rfl⟩

end Loading

/-! ### OBJ_READ of an undamaged store (R113, R114) -/

section ReadBack

variable {o : Fin 128} {pages : List Nat}

theorem ObjectStore.differs_undamaged {st : ObjectStore} (h : st.differing = []) (key : Nat) :
    st.differs key = [] := by simp [ObjectStore.differs, h]

/-- Groups of an undamaged store read as they stand, and change nothing. -/
theorem ReadPass.foldl_undamaged (groups : List Nat) (p : ReadPass) (h : p.store.differing = []) :
    groups.foldl (ReadPass.step o pages) p =
      { p with groups := p.groups ++ groups.map fun g => (g, p.store.stands (groupKey pages g)) } := by
  induction groups generalizing p with
  | nil => simp
  | cons g rest ih =>
    have one : p.step o pages g =
        { p with groups := p.groups ++ [(g, p.store.stands (groupKey pages g))] } := by
      simp [ReadPass.step, ObjectStore.readFor_clean (ObjectStore.differs_undamaged h _)]
    rw [List.foldl_cons, one]
    refine (ih { p with groups := p.groups ++ [(g, p.store.stands (groupKey pages g))] } h).trans ?_
    simp

/-- The group of each place is among those read. -/
theorem mem_placeGroups {places : List Nat} {p : Nat} (h : p ∈ places) : p / 16 ∈ placeGroups places := by
  have reached (l seen : List Nat) (g : Nat) (hg : g ∈ seen ∨ ∃ p ∈ l, p / 16 = g) :
      g ∈ l.foldl (fun seen p => if seen.contains (p / 16) then seen else seen ++ [p / 16]) seen := by
    induction l generalizing seen with
    | nil => simpa using hg
    | cons q rest ih =>
      refine ih _ ?_
      by_cases known : q / 16 ∈ seen
      · rcases hg with old | ⟨p, hp, rfl⟩
        · simp [known, old]
        · rcases List.mem_cons.mp hp with rfl | later
          · simp [known]
          · exact .inr ⟨p, later, rfl⟩
      · rcases hg with old | ⟨p, hp, rfl⟩
        · simp [known, old]
        · rcases List.mem_cons.mp hp with rfl | later
          · simp [known]
          · exact .inr ⟨p, later, rfl⟩
  exact reached places [] _ (.inr ⟨p, h, rfl⟩)

theorem placeOctet_map {groups : List Nat} (octets : Nat → Octets) {p : Nat} (h : p / 16 ∈ groups) :
    placeOctet (groups.map fun g => (g, octets g)) p = (octets (p / 16)).getD (p % 16) 0 := by
  have found : (groups.map fun g => (g, octets g)).find? (fun g => decide (g.1 = p / 16))
      = some (p / 16, octets (p / 16)) := by
    rw [List.find?_map]
    cases read : groups.find? ((fun g : Nat × Octets => decide (g.1 = p / 16)) ∘ fun g => (g, octets g)) with
    | none => exact absurd (by simp) (List.find?_eq_none.mp read _ h)
    | some g =>
      have same : g = p / 16 := by simpa using List.find?_some read
      rw [same]
      rfl
  rw [placeOctet, found]

theorem objRead_undamaged {s : State} {x : StoredObject} {offset count : Nat}
    (held : s.store.objects[o] = some x) (loaded : x.state ≠ .loading) (inside : offset < x.declared)
    (range : offset < 65536) (least : 1 ≤ count) (most : count ≤ 1024) (undamaged : s.store.differing = []) :
    objRead (octet (o.val + 1) :: be16 offset ++ be16 count) s =
      (s, .done ([octet (o.val + 1), x.state.code, x.kind.code] ++ be16 x.declared ++ be16 x.references
        ++ [0] ++ be16 offset ++ be16 count
        ++ (List.range count).map fun j =>
          Memory.read s.store.memory
            (16 * groupKey x.pages ((offset + j) % x.declared / 16) + (offset + j) % x.declared % 16))) := by
  have index : objectIndex? (field (octet (o.val + 1) :: be16 offset ++ be16 count) 0) = some o :=
    objectIndex?_number o _
  have first : field16 (octet (o.val + 1) :: be16 offset ++ be16 count) 1 = offset :=
    field16_be16 range (be16 count)
  have size : field16 (octet (o.val + 1) :: be16 offset ++ be16 count) 3 = count :=
    field16_be16_only (most.trans_lt (by decide))
  have octets : (readPlaces x.declared offset count).map
        (placeOctet ([] ++ (placeGroups (readPlaces x.declared offset count)).map fun g =>
          (g, s.store.stands (groupKey x.pages g))))
      = (List.range count).map fun j => Memory.read s.store.memory
          (16 * groupKey x.pages ((offset + j) % x.declared / 16) + (offset + j) % x.declared % 16) := by
    rw [readPlaces, List.map_map, List.nil_append]
    refine List.map_congr_left fun j hj => ?_
    have read : (offset + j) % x.declared / 16 ∈ placeGroups (readPlaces x.declared offset count) :=
      mem_placeGroups (List.mem_map_of_mem (f := fun j => (offset + j) % x.declared) hj)
    exact (placeOctet_map _ read).trans
      (s.store.stands_getD _ (Nat.mod_lt _ (by decide)))
  simp only [objRead, index, first, size, held]
  rw [if_neg (by omega), if_neg loaded, if_neg (not_le.mpr inside)]
  rw [ReadPass.foldl_undamaged _ { store := s.store, groups := [], bad := false, events := [] } undamaged]
  dsimp only
  rw [octets]
  rfl

end ReadBack

/-! ### STORE_STATUS (R116) -/

theorem ObjectStore.countIn_eq (st : ObjectStore) (p : StoredObject → Bool) :
    st.countIn p = st.objects.toList.countP fun x => x.any p := List.countP_eq_length_filter.symm

theorem option_any_true {α : Type} (x : Option α) : x.any (fun _ => true) = x.isSome := by
  cases x <;> rfl

end Sys2Proof.Machine

open Sys2Proof Sys2Proof.Machine

/-- Settles O38: what OBJ_OPEN does with the lowest FREE object, and how the cleared pages read. -/
theorem objectOpenTakesAndClearsPages : Obligations.ObjectOpenTakesAndClearsPages := by
  intro s r rest kind length n o h hkind body least limit hn empty lowest
  obtain rfl : n = pagesFor length := hn
  have opens := objOpen_lowest (s := s.taken rest) least ((ObjectKind.limit_eq kind).symm ▸ limit)
    (ObjectStore.lowestFree_eq empty lowest)
  refine ⟨fun room => ⟨s.store.openObject o kind length, ?_, rfl, rfl, ObjectStore.read_openObject,
    ObjectStore.mem_differing_openObject, rfl, rfl, rfl, rfl⟩, fun full => ?_⟩
  · exact exec_request_of h hkind body rfl rfl (opens.trans (if_neg (not_lt.mpr room)))
  · exact exec_request_of h hkind body rfl rfl (opens.trans (if_pos full))

/-- Settles O39: the groups written in a row by `ObjectStore.read_writeGroups`, which are apart since an
object's pages are. -/
theorem objectLoadAndClose : Obligations.ObjectLoadAndClose := by
  intro s r rest o x h memory pages objects held loading
  have sound := ((objectLaw_iff s).mp objects).objects o x held
  have once := ((pageLaw_iff s).mp pages).nodup held
  refine ⟨fun data kind body least most inside => ?load,
    fun kind body => ⟨fun short => ?short, fun whole => ?close⟩⟩
  case load =>
    have fits : bodyFits 0x41 (octet (o.val + 1) :: be16 x.loaded ++ data).length = true := by
      have size : (octet (o.val + 1) :: be16 x.loaded ++ data).length = data.length + 3 := rfl
      rw [size, bodyFits_load]
      omega
    obtain ⟨octets, elsewhere, marks⟩ := ObjectStore.load_groups (o := o) memory sound once loading inside
    obtain ⟨_, _, kept⟩ := ObjectStore.load_kept (st := s.store) (o := o) sound loading data
    refine ⟨s.store.load o x data, ?_, ?_, octets, elsewhere, marks, ?_, ?_, ?_, ?_, ?_⟩
    · exact exec_request_of h kind body rfl fits
        (objLoad_next (s := s.taken rest) held loading inside sound)
    all_goals rw [kept]
  case short =>
    exact exec_request_of h kind body rfl rfl
      ((objClose_loading (s := s.taken rest) held loading).trans (if_pos short))
  case close =>
    refine ⟨s.store.closeObject o x, exec_request_of h kind body rfl rfl
      ((objClose_loading (s := s.taken rest) held loading).trans (if_neg whole.not_lt)), ?_⟩
    rw [ObjectStore.closeObject_eq sound loading]
    by_cases empty : x.tail = []
    · simp [empty, ObjectStore.setObject]
    · rw [if_neg empty]
      refine ⟨rfl, fun j _ hj => ?_, fun a other => ?_, fun d => ?_, rfl, rfl, rfl, rfl, rfl⟩
      · refine (ObjectStore.read_writeGroup memory (padTo_length 16 x.tail) _).trans ?_
        rw [if_pos (by omega), show (16 * groupKey x.pages (x.loaded / 16) + j) % 16 = j by omega,
          padTo_getD x.tail hj]
      · exact (ObjectStore.read_writeGroup memory (padTo_length 16 x.tail) a).trans
          (if_neg (other.resolve_left empty))
      · refine (ObjectStore.mem_differing_writeGroup (b := padTo 16 x.tail)).trans
          (and_congr_right fun _ => ?_)
        simp [empty]

/-- Settles O41: the groups of an undamaged store by `ReadPass.foldl_undamaged`. -/
theorem objectReadAndStoreStatus : Obligations.ObjectReadAndStoreStatus := by
  intro s r rest h
  refine ⟨fun o x offset count kind body held loaded inside range least most undamaged => ?_,
    fun kind body => ?_⟩
  · have state : x.state.code = if x.state = .ready then 2 else 3 := by
      cases known : x.state with
      | loading => exact absurd known loaded
      | ready => rfl
      | faulted => rfl
    have kindCode : x.kind.code = if x.kind = .text then 1 else 2 := by cases x.kind <;> rfl
    rw [← state, ← kindCode]
    exact exec_request_of h kind body rfl rfl
      (objRead_undamaged (s := s.taken rest) held loaded inside range least most undamaged)
  · refine exec_request_of h kind body rfl rfl ?_
    simp only [reading, storeStatus, ObjectStore.countIn_eq, option_any_true]
    rfl

end

section
/-! PROOFS. The answer of a lane to a cell request (R130 to R135). -/

namespace Sys2Proof.Machine

section Supply

variable {l : Lane} {i : Fin 32} {k : ObjectKind} {st : ObjectStore} {e f : CarouselEntry} {x : StoredObject}
  {pre post : List CarouselEntry}

/-! ### The current entry and its object -/

theorem Lane.currentEntry_of_mem (ids : (l.entries.map CarouselEntry.id).Nodup) (he : e ∈ l.entries)
    (current : l.current = some e.id) : l.currentEntry = some e := by
  obtain ⟨pre, post, entries⟩ := List.append_of_mem he
  rw [entries] at ids
  have before : pre.find? (fun c => decide (c.id = e.id)) = none :=
    List.find?_eq_none.mpr fun c hc => by simpa using id_ne_of_split ids (List.mem_append_left post hc)
  simp [Lane.currentEntry, current, entries, List.find?_append, before]

theorem ObjectStore.isIn_held (held : st.objects[e.object] = some x) (state : ObjectState) :
    st.isIn e.object state = decide (x.state = state) := by
  simp [ObjectStore.isIn, held]

theorem abandonCell_eq (k : ObjectKind) (number index : Nat) :
    abandonCell k number index = .data
      { number := octet number, kind := k.cellKind, first := false, last := false
        abandon := true, index := index } (List.replicate 32 0) := rfl

theorem Lane.advance_of_current (current : l.current = some e.id) :
    l.advance = { l with current := nextEntry l.entries e.id, cursor := 0, done := 0 } := by
  rw [Lane.advance, current]
  rfl

/-! ### The three cases of R131 -/

theorem Lane.answerCell_owed {a : Abandon} (owed : l.owed = some a) :
    l.answerCell i k st =
      { lane := { l with owed := none }, store := st, cell := some (abandonCell k a.object a.index)
        events := [] } := by
  simp only [Lane.answerCell, owed]

theorem Lane.answerCell_faulted (owed : l.owed = none) (current : l.currentEntry = some e)
    (held : st.objects[e.object] = some x) (faulted : x.state = .faulted) (visit : 0 < l.cursor ∨ 0 < l.done) :
    l.answerCell i k st =
      { lane := l.advance, store := st
        cell := some (abandonCell k (objectNumber e.object) l.cursor), events := [] } := by
  have mid : l.faultedVisit st = true := by
    simp [Lane.faultedVisit, Lane.midWay, current, ObjectStore.isIn_held held, faulted, visit]
  simp only [Lane.answerCell, owed, mid, current]

theorem Lane.answerCell_skip (owed : l.owed = none) (visit : l.faultedVisit st = false) :
    l.answerCell i k st = (Lane.skip st l l.entries.length).supplyFragment i k st := by
  simp only [Lane.answerCell, owed, visit]

/-! ### Entries skipped -/

theorem Lane.skip_ready (current : l.currentEntry = some e) (ready : st.isIn e.object .ready = true) (n : Nat) :
    Lane.skip st l n = l := by
  cases n with
  | zero => rfl
  | succ n => simp only [Lane.skip, current, ready, if_true]

theorem Lane.skip_next (current : l.currentEntry = some e) (waits : st.isIn e.object .ready = false) (n : Nat) :
    Lane.skip st l (n + 1) = Lane.skip st l.advance n := by
  simp only [Lane.skip, current, waits, Bool.false_eq_true, if_false]

/-- A circle of entries opened at the entry behind e. -/
theorem circle_next {more : List CarouselEntry} (next : post ++ pre = f :: more) :
    ∃ pre' post', pre ++ e :: post = pre' ++ f :: post' ∧ post' ++ pre' = more ++ [e] := by
  cases post with
  | nil =>
    obtain rfl : pre = f :: more := next
    exact ⟨[], more ++ [e], rfl, List.append_nil _⟩
  | cons g rest =>
    obtain ⟨rfl, rfl⟩ := List.cons.inj next
    exact ⟨pre ++ [e], rest, by simp, by simp⟩

/-- A lane at the start of a visit skips the entries that are not READY, up to the first that is. -/
theorem Lane.skip_to {skipped later : List CarouselEntry} {n : Nat} (cursor : l.cursor = 0) (done : l.done = 0)
    (ids : (l.entries.map CarouselEntry.id).Nodup) (entries : l.entries = pre ++ e :: post)
    (current : l.current = some e.id) (circle : e :: post ++ pre = skipped ++ f :: later)
    (waits : ∀ g ∈ skipped, st.isIn g.object .ready = false) (ready : st.isIn f.object .ready = true)
    (fuel : skipped.length ≤ n) :
    Lane.skip st l n = { l with current := some f.id, cursor := 0, done := 0 } := by
  induction skipped generalizing l pre e post later n with
  | nil =>
    obtain ⟨rfl, _⟩ := List.cons.inj circle
    have at_first := Lane.currentEntry_of_mem ids (by simp [entries]) current
    rw [Lane.skip_ready at_first ready]
    cases l
    cases cursor
    cases done
    cases current
    rfl
  | cons g rest ih =>
    obtain ⟨rfl, next⟩ := List.cons.inj circle
    obtain ⟨n, rfl⟩ := Nat.exists_eq_add_one.mpr ((Nat.succ_pos _).trans_le fuel)
    obtain ⟨h, more, opened⟩ : ∃ h more, rest ++ f :: later = h :: more :=
      List.exists_cons_of_ne_nil (by simp)
    have next : post ++ pre = rest ++ f :: later := next
    obtain ⟨pre', post', entries', circle'⟩ := circle_next (e := e) (next.trans opened)
    have moves : nextEntry l.entries e.id = some h.id := by
      rw [entries, nextEntry_split (entries ▸ ids), next, opened]
      rfl
    have at_first := Lane.currentEntry_of_mem ids (by simp [entries]) current
    rw [Lane.skip_next at_first (waits e List.mem_cons_self), Lane.advance_of_current current, moves]
    refine ih (l := { l with current := some h.id, cursor := 0, done := 0 }) (later := later ++ [e])
      rfl rfl ids (entries.trans entries') rfl ?_
      (fun g hg => waits g (List.mem_cons_of_mem _ hg)) (Nat.le_of_succ_le_succ fuel)
    rw [List.cons_append, circle', ← List.cons_append, ← opened]
    simp

/-! ### The fragment at the cursor -/

theorem ObjectStore.fetchFragment_undamaged (held : st.objects[e.object] = some x)
    (undamaged : st.differing = []) (c : Nat) :
    st.fetchFragment e.object c =
      { store := st
        octets := fragmentOctets (st.stands (groupKey x.pages (2 * c))
          ++ st.stands (groupKey x.pages (2 * c + 1))) x.declared c
        bad := false, events := [] } := by
  have clean (key : Nat) : st.fetchGroup e.object key
      = { store := st, octets := st.stands key, bad := false, events := [] } :=
    ObjectStore.fetchGroup_clean (ObjectStore.differs_undamaged undamaged key)
  simp only [ObjectStore.fetchFragment, held, clean]
  split
  · rfl
  · rename_i short
    have inside : x.declared - 32 * c ≤ (st.stands (groupKey x.pages (2 * c))).length := by
      rw [ObjectStore.stands_length]
      omega
    rw [fragmentOctets, fragmentOctets, List.take_append_of_le_length inside]

theorem Lane.answerCell_ready (owed : l.owed = none) (current : l.currentEntry = some e)
    (held : st.objects[e.object] = some x) (ready : x.state = .ready) :
    l.answerCell i k st = l.supplyFragment i k st := by
  have visit : l.faultedVisit st = false := by
    simp [Lane.faultedVisit, current, ObjectStore.isIn_held held, ready]
  rw [Lane.answerCell_skip owed visit,
    Lane.skip_ready current (by simp [ObjectStore.isIn_held held, ready])]

/-- A fetch that ends in FAULT (R133). -/
theorem Lane.supplyFragment_bad (current : l.currentEntry = some e) (held : st.objects[e.object] = some x)
    (bad : (st.fetchFragment e.object l.cursor).bad = true) :
    l.supplyFragment i k st =
      { lane := l.advance, store := (st.fetchFragment e.object l.cursor).store
        cell := some (abandonCell k (objectNumber e.object) l.cursor)
        events := (st.fetchFragment e.object l.cursor).events } := by
  simp only [Lane.supplyFragment, current, held, bad, if_true]

theorem Lane.supplyFragment_undamaged (current : l.currentEntry = some e)
    (held : st.objects[e.object] = some x) (undamaged : st.differing = []) :
    l.supplyFragment i k st = l.sent i k e x.declared st
      (fragmentCell k (objectNumber e.object) x.declared l.cursor
        (fragmentOctets (st.stands (groupKey x.pages (2 * l.cursor))
          ++ st.stands (groupKey x.pages (2 * l.cursor + 1))) x.declared l.cursor)) := by
  simp only [Lane.supplyFragment, current, held, ObjectStore.fetchFragment_undamaged held undamaged,
    Bool.false_eq_true, if_false, List.nil_append]

/-! ### After a fragment cell (R134) -/

theorem heldEvent_eq (i : Fin 32) (k : ObjectKind) (e : CarouselEntry) (l : Lane) :
    heldEvent i k e l = (.carouselHeld, [octet i.val, k.laneCode, octet e.id.val,
      match l.current with | some id => octet id.val | none => 0]) := by
  rw [heldEvent, Lane.currentOctet]
  cases l.current <;> rfl

section Sent

variable {declared : Nat} {cell : Cell}

theorem Lane.sent_within (within : l.cursor + 1 < fragments declared) :
    l.sent i k e declared st cell =
      { lane := { l with cursor := l.cursor + 1 }, store := st, cell := some cell, events := [] } :=
  if_pos within

theorem Lane.sent_again (last : l.cursor + 1 = fragments declared) (again : l.done + 1 < e.repeats) :
    l.sent i k e declared st cell =
      { lane := { l with cursor := 0, done := l.done + 1 }, store := st, cell := some cell, events := [] } :=
  (if_neg last.not_lt).trans (if_pos again)

theorem Lane.sent_complete (last : l.cursor + 1 = fragments declared) (ended : e.repeats ≤ l.done + 1) :
    l.sent i k e declared st cell = l.complete i k e st cell :=
  (if_neg last.not_lt).trans (if_neg ended.not_gt)

/-- How the lane moves on when a visit of e ends: e leaves it under ONCE. -/
def Lane.ended (l : Lane) (e : CarouselEntry) : Lane :=
  if e.once then { l with cursor := 0, done := 0 : Lane }.remove e
  else { l with cursor := 0, done := 0 : Lane }.advance

/-- A completed visit that leaves the lane entries: HOLD stops it. -/
theorem Lane.complete_entries (running : (l.ended e).phase = .running) :
    l.complete i k e st cell =
      { lane := { l.ended e with phase := if e.hold then .held else .running }
        store := if e.once then st.release e.object else st
        cell := some cell
        events := (if e.notify then [notifyEvent i k e] else [])
          ++ (if e.hold then [heldEvent i k e (l.ended e)] else []) } := by
  have some_left : (l.ended e).phase ≠ .empty := by simp [running]
  have complete : l.complete i k e st cell =
      if e.hold ∧ (l.ended e).phase ≠ .empty then
        { lane := { l.ended e with phase := .held }
          store := if e.once then st.release e.object else st
          cell := some cell
          events := (if e.notify then [notifyEvent i k e] else []) ++ [heldEvent i k e (l.ended e)] }
      else
        { lane := l.ended e
          store := if e.once then st.release e.object else st
          cell := some cell
          events := if e.notify then [notifyEvent i k e] else [] } := rfl
  rw [complete]
  by_cases hold : e.hold = true
  · simp [hold, some_left]
  · simp [hold, ← running]

theorem Lane.complete_empty (none_left : l.ended e = Lane.initial) :
    l.complete i k e st cell =
      { lane := Lane.initial
        store := if e.once then st.release e.object else st
        cell := some cell
        events := if e.notify then [notifyEvent i k e] else [] } := by
  unfold Lane.ended at none_left
  simp only [Lane.complete, none_left]
  exact if_neg fun stops => stops.2 rfl

/-! ### The lane that a completed visit leaves -/

theorem Lane.ended_stays (current : l.current = some e.id) (stays : e.once = false) :
    l.ended e = { l with current := nextEntry l.entries e.id, cursor := 0, done := 0 } := by
  rw [Lane.ended, stays, if_neg Bool.false_ne_true,
    Lane.advance_of_current (l := { l with cursor := 0, done := 0 }) current]

theorem Lane.ended_last (leaves : e.once = true) (entries : l.entries = [e]) :
    l.ended e = Lane.initial := by
  rw [Lane.ended, if_pos leaves, Lane.remove_last (l := { l with cursor := 0, done := 0 }) entries]

theorem Lane.ended_next {later : List CarouselEntry} (current : l.current = some e.id)
    (leaves : e.once = true) (entries : l.entries = pre ++ e :: post)
    (ids : (l.entries.map CarouselEntry.id).Nodup) (next : post ++ pre = f :: later) :
    l.ended e = { l with entries := pre ++ post, current := some f.id, cursor := 0, done := 0 } := by
  rw [Lane.ended, if_pos leaves,
    Lane.remove_current (l := { l with cursor := 0, done := 0 }) entries ids next current]
  simp

theorem ObjectStore.release_held (held : st.objects[e.object] = some x) :
    st.release e.object = st.setObject e.object (some { x with references := x.references - 1 }) := by
  rw [ObjectStore.release, held]

end Sent

/-! ### A fragment whose first group is uncorrectable (R112) -/

/-- The second group of a fragment, where it is read, is not damaged. -/
theorem ObjectStore.fetchFragment_two {c key b d : Nat} (held : st.objects[e.object] = some x)
    (ready : x.state = .ready) (first : key = groupKey x.pages (2 * c)) (damage : st.differs key = [b, d])
    (second : x.declared ≤ 16 * (2 * c + 1) ∨ st.differs (groupKey x.pages (2 * c + 1)) = []) :
    (st.fetchFragment e.object c).bad = true ∧
      (st.fetchFragment e.object c).store =
        (st.countUncorrectable e.object key).setObject e.object (some { x with state := .faulted }) ∧
      (st.fetchFragment e.object c).events =
        [(.objectFaulted, (Capture.of key e.object).detail)] := by
  subst first
  simp only [ObjectStore.fetchFragment, held, ObjectStore.fetchGroup_two damage held ready]
  split
  · rename_i long
    have clean : ((st.countUncorrectable e.object (groupKey x.pages (2 * c))).setObject e.object
        (some { x with state := .faulted })).differs (groupKey x.pages (2 * c + 1)) = [] :=
      (ObjectStore.differs_congr rfl _).trans (second.resolve_left (by omega))
    rw [ObjectStore.fetchGroup_clean clean]
    exact ⟨rfl, rfl, rfl⟩
  · exact ⟨rfl, rfl, rfl⟩

end Supply

end Sys2Proof.Machine

open Sys2Proof Sys2Proof.Machine

/-- Settles O34: each clause by the case of R131 it states, and a sent fragment by the case of R134. -/
theorem lanesSupplyFragments : Obligations.LanesSupplyFragments := by
  intro l i k st e x running currentEntry held
  obtain ⟨_, current⟩ := Lane.currentEntry_mem currentEntry
  refine ⟨fun a owed => ?owed, fun owed faulted visit => ?faulted,
    fun n cell owed ready undamaged hn hcell => ?sent,
    fun pre post skipped later f owed cursor done ids entries circle some_skipped faulted ready => ?skip,
    fun owed ready => ⟨fun r hr bad => ?bad, fun key b c first damage second => ?damage⟩⟩
  case owed => rw [Lane.answerCell_owed owed, abandonCell_eq]
  case faulted =>
    rw [Lane.answerCell_faulted owed currentEntry held faulted visit, Lane.advance_of_current current,
      abandonCell_eq]
    rfl
  case sent =>
    have supply : l.answerCell i k st = l.sent i k e x.declared st cell := by
      rw [Lane.answerCell_ready owed currentEntry held ready,
        Lane.supplyFragment_undamaged currentEntry held undamaged, hcell, hn]
      rfl
    rw [supply, hn]
    refine ⟨fun within => Lane.sent_within within, fun last again => Lane.sent_again last again,
      fun last ended stays => ?_, fun last ended leaves entries => ?_,
      fun pre post later f last ended leaves entries next ids => ?_⟩
    · have moved := Lane.ended_stays current stays
      have kept : (if e.once then st.release e.object else st) = st := if_neg (by simp [stays])
      rw [Lane.sent_complete last ended, Lane.complete_entries (by rw [moved]; exact running), moved, kept,
        heldEvent_eq]
      rfl
    · rw [Lane.sent_complete last ended, Lane.complete_empty (Lane.ended_last leaves entries), if_pos leaves,
        ObjectStore.release_held held]
      rfl
    · have moved := Lane.ended_next current leaves entries ids next
      rw [Lane.sent_complete last ended, Lane.complete_entries (by rw [moved]; exact running), moved,
        if_pos leaves, ObjectStore.release_held held]
      rfl
  case skip =>
    have waits (g : CarouselEntry) (hg : g ∈ skipped) : st.isIn g.object .ready = false := by
      obtain ⟨y, holds, state⟩ := faulted g hg
      simp [ObjectStore.isIn_held holds, state]
    have shown : st.isIn f.object .ready = true := by
      obtain ⟨y, holds, state⟩ := ready
      simp [ObjectStore.isIn_held holds, state]
    have size : (e :: post ++ pre).length = (skipped ++ f :: later).length := congrArg List.length circle
    have fuel : skipped.length ≤ l.entries.length := by
      simp only [entries, List.length_append, List.length_cons] at size ⊢
      omega
    have listed : f ∈ l.entries := by
      have member : f ∈ e :: post ++ pre := circle ▸ by simp
      simp only [entries, List.mem_append, List.mem_cons] at member ⊢
      tauto
    have at_next : ({ l with current := some f.id, cursor := 0, done := 0 } : Lane).currentEntry = some f :=
      Lane.currentEntry_of_mem ids listed rfl
    have visit : l.faultedVisit st = false := by simp [Lane.faultedVisit, Lane.midWay, cursor, done]
    rw [Lane.answerCell_skip owed visit,
      Lane.skip_to cursor done ids entries current circle waits shown fuel,
      Lane.answerCell_skip (l := { l with current := some f.id, cursor := 0, done := 0 }) owed rfl,
      Lane.skip_ready at_next shown]
  case bad =>
    subst hr
    rw [Lane.answerCell_ready owed currentEntry held ready, Lane.supplyFragment_bad currentEntry held bad,
      Lane.advance_of_current current, abandonCell_eq]
    rfl
  case damage =>
    obtain ⟨bad, store, events⟩ := ObjectStore.fetchFragment_two held ready first damage second
    rw [ObjectStore.countUncorrectable_eq] at store
    exact ⟨bad, store, events⟩

end

section
/-! PROOFS. OBJ_DROP, and the entries it removes under force (R108, R109, R125, R127). -/

namespace Sys2Proof.Machine

/-! ### A lane without entries of the ids given (R125) -/

section Without

variable {l : Lane} {c f : CarouselEntry} {pre post : List CarouselEntry} {id : Nat} {ids : List Nat}

/-- Removing one id and then the others removes them all. -/
theorem filter_ids_cons (entries : List CarouselEntry) (id : Nat) (ids : List Nat) :
    (entries.filter fun e => decide (e.id.val ≠ id)).filter (fun e => decide (e.id.val ∉ ids))
      = entries.filter fun e => decide (e.id.val ∉ id :: ids) := by
  rw [List.filter_filter]
  exact List.filter_congr fun e _ => by simp [Bool.and_comm]

theorem nodup_filter_ids (once : (l.entries.map CarouselEntry.id).Nodup) (p : CarouselEntry → Bool) :
    ((l.entries.filter p).map CarouselEntry.id).Nodup :=
  once.sublist (List.filter_sublist.map _)

theorem filter_val_ne (once : (l.entries.map CarouselEntry.id).Nodup) (entries : l.entries = pre ++ c :: post) :
    l.entries.filter (fun e => decide (e.id.val ≠ c.id.val)) = pre ++ post := by
  rw [entries] at once ⊢
  refine Eq.trans (List.filter_congr fun e _ => ?_) (filter_id_ne once)
  simp [Fin.ext_iff]

/-- An id removed that is not the current entry's. -/
theorem Lane.without_other (once : (l.entries.map CarouselEntry.id).Nodup) (hc : c ∈ l.entries)
    (current : l.current = some c.id) (other : c.id.val ≠ id) :
    l.without id = { l with entries := l.entries.filter fun e => decide (e.id.val ≠ id) } := by
  by_cases listed : ∃ e ∈ l.entries, e.id.val = id
  · obtain ⟨e, he, rfl⟩ := listed
    have apart : c.id ≠ e.id := fun same => other (congrArg Fin.val same)
    obtain ⟨pre, post, entries⟩ := List.append_of_mem he
    have left : c ∈ pre ++ post := by
      rw [entries, List.mem_append, List.mem_cons] at hc
      rcases hc with before | rfl | after
      · exact List.mem_append_left _ before
      · exact absurd rfl apart
      · exact List.mem_append_right _ after
    rw [Lane.without_of_mem once he, Lane.remove_other entries once (List.ne_nil_of_mem left)
      (by simpa [current] using apart), filter_val_ne once entries]
  · have unlisted : ∀ e ∈ l.entries, e.id.val ≠ id := fun e he same => listed ⟨e, he, same⟩
    rw [Lane.without_of_notMem unlisted, List.filter_eq_self.mpr fun e he => by simpa using unlisted e he]

/-- The current entry's id removed: the next entry becomes current. -/
theorem Lane.without_current {more : List CarouselEntry} (once : (l.entries.map CarouselEntry.id).Nodup)
    (entries : l.entries = pre ++ c :: post) (current : l.current = some c.id)
    (next : post ++ pre = f :: more) :
    l.without c.id.val =
      { l with
        entries := l.entries.filter fun e => decide (e.id.val ≠ c.id.val)
        current := some f.id, cursor := 0, done := 0
        owed :=
          if 0 < l.cursor ∨ 0 < l.done then
            some { object := objectNumber c.object, index := l.cursor }
          else l.owed } := by
  rw [Lane.without_of_mem once (by simp [entries]), Lane.remove_current entries once next current,
    filter_val_ne once entries]

theorem Lane.withoutAll_of_notMem (h : ∀ e ∈ l.entries, e.id.val ∉ ids) : ids.foldl Lane.without l = l := by
  induction ids with
  | nil => rfl
  | cons id rest ih =>
    have none_named : ∀ e ∈ l.entries, e.id.val ≠ id ∧ e.id.val ∉ rest := fun e he => by
      simpa using h e he
    rw [List.foldl_cons, Lane.without_of_notMem fun e he => (none_named e he).1]
    exact ih fun e he => (none_named e he).2

/-- Ids removed that leave the current entry. -/
theorem Lane.withoutAll_other (once : (l.entries.map CarouselEntry.id).Nodup) (hc : c ∈ l.entries)
    (current : l.current = some c.id) (other : c.id.val ∉ ids) :
    ids.foldl Lane.without l = { l with entries := l.entries.filter fun e => decide (e.id.val ∉ ids) } := by
  induction ids generalizing l with
  | nil => simp
  | cons id rest ih =>
    obtain ⟨first, later⟩ : c.id.val ≠ id ∧ c.id.val ∉ rest := by simpa using other
    rw [List.foldl_cons, Lane.without_other once hc current first]
    refine (ih (l := { l with entries := l.entries.filter fun e => decide (e.id.val ≠ id) })
      (nodup_filter_ids once _) (List.mem_filter.mpr ⟨hc, decide_eq_true first⟩) current later).trans ?_
    rw [filter_ids_cons]

/-- A circle of entries opened at its first one. -/
theorem circle_open {more : List CarouselEntry} (next : post ++ pre = f :: more) :
    ∃ pre' post', pre ++ post = pre' ++ f :: post' ∧ post' ++ pre' = more := by
  cases post with
  | nil =>
    obtain rfl : pre = f :: more := next
    exact ⟨[], more, List.append_nil _, List.append_nil _⟩
  | cons g rest =>
    obtain ⟨rfl, rfl⟩ := List.cons.inj next
    exact ⟨pre, rest, rfl, rfl⟩

/-- Ids removed, the current entry's among them: the first entry left behind it becomes current, and an
ABANDON is owed for the visit that was cut off. -/
theorem Lane.withoutAll_current {later : List CarouselEntry}
    (once : (l.entries.map CarouselEntry.id).Nodup) (entries : l.entries = pre ++ c :: post)
    (current : l.current = some c.id) (removed : c.id.val ∈ ids)
    (next : (post ++ pre).filter (fun e => decide (e.id.val ∉ ids)) = f :: later) :
    ids.foldl Lane.without l =
      { l with
        entries := l.entries.filter fun e => decide (e.id.val ∉ ids)
        current := some f.id, cursor := 0, done := 0
        owed :=
          if 0 < l.cursor ∨ 0 < l.done then
            some { object := objectNumber c.object, index := l.cursor }
          else l.owed } := by
  induction ids generalizing l pre c post with
  | nil => cases removed
  | cons id rest ih =>
    have hc : c ∈ l.entries := by simp [entries]
    rw [List.foldl_cons, ← filter_ids_cons]
    rw [← filter_ids_cons] at next
    by_cases first : c.id.val = id
    · subst first
      have others : (post ++ pre).filter (fun e => decide (e.id.val ≠ c.id.val)) = post ++ pre := by
        refine List.filter_eq_self.mpr fun e he => ?_
        have apart := id_ne_of_split (entries ▸ once) (List.perm_append_comm.mem_iff.mp he)
        simpa [Fin.ext_iff] using apart
      have kept := filter_val_ne once entries
      rw [others] at next
      obtain ⟨g, more, circle⟩ : ∃ g more, post ++ pre = g :: more :=
        List.exists_cons_of_ne_nil fun none_left => by
          rw [none_left] at next
          cases next
      obtain ⟨pre', post', opened, circle'⟩ := circle_open circle
      have once' := nodup_filter_ids once fun e => decide (e.id.val ≠ c.id.val)
      rw [Lane.without_current once entries current circle]
      rw [circle] at next
      by_cases again : g.id.val ∈ rest
      · rw [List.filter_cons_of_neg (by simpa using again), ← circle'] at next
        refine (ih once' (kept.trans opened) rfl again next).trans ?_
        simp
      · rw [List.filter_cons_of_pos (by simpa using again)] at next
        obtain ⟨rfl, _⟩ := List.cons.inj next
        exact Lane.withoutAll_other once' ((kept.trans opened) ▸ by simp) rfl again
    · rw [Lane.without_other once hc current first]
      refine ih (pre := pre.filter fun e => decide (e.id.val ≠ id))
        (post := post.filter fun e => decide (e.id.val ≠ id)) (nodup_filter_ids once _) ?_ current
        ((List.mem_cons.mp removed).resolve_left first) (by rwa [← List.filter_append])
      simp [entries, first]

end Without

/-! ### The state without the entries that name an object (R127) -/

section Removed

variable {s : State} {o : Fin 128} {x : StoredObject}

/-- Each removal of an entry that names the object writes the lanes and releases the object once. -/
theorem State.removeIds_eq {ids : List Nat}
    (names : ∀ i k, ∀ e ∈ (s.lane i k).entries, e.id.val ∈ ids → e.object = o) :
    ∃ removed cs, (∀ e ∈ removed, e.object = o) ∧
      ids.foldl State.removeId s = (s.withCarousels cs).withStore (s.store.releaseAll removed) := by
  induction ids generalizing s with
  | nil => exact ⟨[], s.carousels, nofun, rfl⟩
  | cons id rest ih =>
    rw [List.foldl_cons, State.removeId]
    split
    · exact ih fun i k e he listed => names i k e he (List.mem_cons_of_mem _ listed)
    · rename_i i k e found
      obtain ⟨he, same⟩ := findEntry_some found
      have left (j : Fin 32) (m : ObjectKind) (f : CarouselEntry)
          (hf : f ∈ ((s.removeEntry i k e).lane j m).entries) : f ∈ (s.lane j m).entries := by
        rw [State.removeEntry, State.lane_withStore, State.lane_setLane_get] at hf
        split at hf
        · rename_i here
          obtain ⟨rfl, rfl⟩ := here
          rw [Lane.remove_entries] at hf
          exact (List.mem_filter.mp hf).1
        · exact hf
      obtain ⟨removed, cs, all, after⟩ := ih (s := s.removeEntry i k e) fun j m f hf listed =>
        names j m f (left j m f hf) (List.mem_cons_of_mem _ listed)
      have first : e.object = o := names i k e he (same ▸ List.mem_cons_self)
      exact ⟨e :: removed, cs, List.forall_mem_cons.mpr ⟨first, all⟩, after⟩

/-- The store after releases of one object: that object has its pages still, and the others are as before. -/
theorem ObjectStore.releaseAll_one {st : ObjectStore} {removed : List CarouselEntry}
    (one : ∀ e ∈ removed, e.object = o) (held : st.objects[o] = some x) :
    (∃ y, (st.releaseAll removed).objects[o] = some y ∧ y.pages = x.pages) ∧
      ∀ j : Fin 128, j ≠ o → (st.releaseAll removed).objects[j] = st.objects[j] := by
  refine ⟨⟨_, (st.releaseAll_objects removed o).trans (congrArg _ held), rfl⟩, fun j other => ?_⟩
  have none_named : removed.countP (fun e => decide (e.object = j)) = 0 :=
    List.countP_eq_zero.mpr fun e he names => other ((of_decide_eq_true names).symm.trans (one e he))
  rw [ObjectStore.releaseAll_objects, none_named]
  simp

/-- The store after the releases, with the object FREE: its pages are in the pool. -/
theorem ObjectStore.freed_after_releases {st : ObjectStore} {removed : List CarouselEntry}
    (one : ∀ e ∈ removed, e.object = o) (held : st.objects[o] = some x) :
    ((st.releaseAll removed).freeObject o).objects[o] = none ∧
      (∀ j : Fin 128, j ≠ o → ((st.releaseAll removed).freeObject o).objects[j] = st.objects[j]) ∧
      ((st.releaseAll removed).freeObject o).free.Perm (x.pages ++ st.free) ∧
      ((st.releaseAll removed).freeObject o).memory = st.memory ∧
      ((st.releaseAll removed).freeObject o).differing = st.differing ∧
      ((st.releaseAll removed).freeObject o).corrected = st.corrected ∧
      ((st.releaseAll removed).freeObject o).uncorrectable = st.uncorrectable ∧
      ((st.releaseAll removed).freeObject o).correctedCapture = st.correctedCapture ∧
      ((st.releaseAll removed).freeObject o).uncorrectableCapture = st.uncorrectableCapture := by
  obtain ⟨⟨y, found, same⟩, others⟩ := ObjectStore.releaseAll_one one held
  have objects := (st.releaseAll removed).freeObject_objects o
  refine ⟨(objects o).trans (if_pos rfl),
    fun j other => (objects j).trans ((if_neg other).trans (others j other)), ?_, ?_⟩
  · rw [ObjectStore.freeObject_eq found, same, ObjectStore.releaseAll_free]
    exact (insertPages_perm x.pages st.free).trans List.perm_append_comm
  · obtain ⟨released, after⟩ := st.releaseAll_eq removed
    rw [ObjectStore.freeObject_eq found, after]
    exact ⟨rfl, rfl, rfl, rfl, rfl, rfl⟩

/-- As many ids as entries that name the object: no two entries share an id. -/
theorem ReferenceLaw.idsNaming_length (law : ReferenceLaw s) (held : s.store.objects[o] = some x) :
    (idsNaming s.carousels o).length = x.references := by
  have once : (((entriesInUse s.carousels).filter fun e => decide (e.object = o)).map
      fun e => e.id.val).Nodup := by
    have ids : (((entriesInUse s.carousels).filter fun e => decide (e.object = o)).map
        CarouselEntry.id).Nodup := law.ids.sublist (List.filter_sublist.map _)
    have values := ids.map Fin.val_injective
    rwa [List.map_map] at values
  have perm : (idsNaming s.carousels o).Perm
      (((entriesInUse s.carousels).filter fun e => decide (e.object = o)).map fun e => e.id.val) := by
    refine (List.perm_ext_iff_of_nodup (List.nodup_range.filter _) once).mpr fun id => ?_
    exact mem_idsNaming.trans (by simp [and_assoc])
  rw [perm.length_eq, List.length_map, ← List.countP_eq_length_filter, ← law.counts,
    ObjectStore.referencesTo_some held]

/-- An object with references is not LOADING. -/
theorem ReferenceLaw.loaded_of_references (law : ReferenceLaw s) (held : s.store.objects[o] = some x)
    (some_reference : 0 < x.references) : x.state ≠ .loading := by
  have count := law.counts o
  rw [ObjectStore.referencesTo_some held] at count
  obtain ⟨e, he, names⟩ := List.countP_pos_iff.mp (count ▸ some_reference)
  obtain rfl : e.object = o := of_decide_eq_true names
  obtain ⟨y, found, loaded⟩ := law.named e he
  exact Option.some.inj (found.symm.trans held) ▸ loaded

/-- What OBJ_DROP of an object in use does: refused without force, else its entries go first. -/
theorem objDrop_held (law : ReferenceLaw s) (held : s.store.objects[o] = some x) (force : Bool) :
    objDrop [octet (o.val + 1), flagOctet force] s =
      if 0 < x.references ∧ force = false then (s, .plain .inUse)
      else
        (((idsNaming s.carousels o).foldl State.removeId s).withStore
          (((idsNaming s.carousels o).foldl State.removeId s).store.freeObject o),
          .done (be16 x.references)) := by
  have index : objectIndex? (field [octet (o.val + 1), flagOctet force] 0) = some o :=
    objectIndex?_number o _
  have flag : flagOperand (field [octet (o.val + 1), flagOctet force] 1) = some force := by
    cases force <;> rfl
  have refused : (x.state ≠ .loading ∧ 0 < x.references ∧ (!force) = true) ↔
      0 < x.references ∧ force = false := by
    refine ⟨fun ⟨_, some_reference, unforced⟩ => ⟨some_reference, by simpa using unforced⟩,
      fun ⟨some_reference, unforced⟩ => ⟨law.loaded_of_references held some_reference, some_reference,
        by simp [unforced]⟩⟩
  simp only [objDrop, index, flag, held, refused, law.dropped_ids held, law.idsNaming_length held]

/-- Whether an entry stays is whether it names another object. -/
theorem ReferenceLaw.stays_iff (law : ReferenceLaw s) (o : Fin 128) {i : Fin 32} {k : ObjectKind}
    {e : CarouselEntry} (he : e ∈ (s.lane i k).entries) :
    e.id.val ∉ idsNaming s.carousels o ↔ e.object ≠ o :=
  not_congr (law.id_mem_idsNaming (mem_entriesInUse.mpr ⟨i, k, he⟩) o)

theorem ReferenceLaw.filter_stays (law : ReferenceLaw s) (o : Fin 128) {i : Fin 32} {k : ObjectKind}
    {entries : List CarouselEntry} (within : ∀ e ∈ entries, e ∈ (s.lane i k).entries) :
    entries.filter (fun e => decide (e.id.val ∉ idsNaming s.carousels o))
      = entries.filter fun e => decide (e.object ≠ o) :=
  List.filter_congr fun _ he => decide_eq_decide.mpr (law.stays_iff o (within _ he))

/-- Each lane after the entries that name the object are removed. -/
theorem ReferenceLaw.removed_lane (lanes : LaneLaw s) (law : ReferenceLaw s) (o : Fin 128) (i : Fin 32)
    (k : ObjectKind) {l t : Lane} (hl : l = s.lane i k)
    (ht : t = ((idsNaming s.carousels o).foldl State.removeId s).lane i k) :
    ((∀ e ∈ l.entries, e.object ≠ o) → t = l) ∧
    ((∀ e ∈ l.entries, e.object = o) → t = Lane.initial) ∧
    (∀ c ∈ l.entries, l.current = some c.id → c.object ≠ o →
      t = { l with entries := l.entries.filter fun e => decide (e.object ≠ o) }) ∧
    (∀ (pre post later : List CarouselEntry) (c f : CarouselEntry), l.entries = pre ++ c :: post →
      l.current = some c.id → c.object = o →
      (post ++ pre).filter (fun e => decide (e.object ≠ o)) = f :: later →
      t = { l with
            entries := l.entries.filter fun e => decide (e.object ≠ o)
            current := some f.id, cursor := 0, done := 0
            owed :=
              if 0 < l.cursor ∨ 0 < l.done then some { object := o.val + 1, index := l.cursor }
              else l.owed }) := by
  have after : t = (idsNaming s.carousels o).foldl Lane.without l := by
    rw [ht, hl, State.removeIds_lane lanes law]
  have once : (l.entries.map CarouselEntry.id).Nodup := hl ▸ (lanes i k).ids
  have stays {e : CarouselEntry} (he : e ∈ l.entries) := law.stays_iff o (hl ▸ he)
  have filtered := law.filter_stays o (entries := l.entries) fun e he => hl ▸ he
  refine ⟨fun unnamed => ?unnamed, fun all => ?all, fun c hc current other => ?other,
    fun pre post later c f entries current names next => ?current⟩
  case unnamed => exact after.trans (Lane.withoutAll_of_notMem fun e he => (stays he).mpr (unnamed e he))
  case all =>
    have kept : LaneLaw ((idsNaming s.carousels o).foldl State.removeId s) :=
      (State.removeIds_keepsStore _ s).lanes lanes
    have none_left : t.entries = [] := by
      rw [ht, law.removed_entries lanes, ← hl]
      exact List.filter_eq_nil_iff.mpr fun e he => by simpa using all e he
    exact (ht ▸ kept i k).empty none_left
  case other =>
    rw [after, Lane.withoutAll_other once hc current ((stays hc).mpr other), filtered]
  case current =>
    have hc : c ∈ l.entries := by simp [entries]
    have removed : c.id.val ∈ idsNaming s.carousels o := by
      by_contra left
      exact (stays hc).mp left names
    have behind (e : CarouselEntry) (he : e ∈ post ++ pre) : e ∈ (s.lane i k).entries := by
      rw [← hl, entries]
      exact List.perm_middle.mem_iff.mpr (List.mem_cons_of_mem c (List.perm_append_comm.mem_iff.mp he))
    rw [after, Lane.withoutAll_current once entries current removed
      ((law.filter_stays o behind).trans next), filtered, ← names]
    rfl

end Removed

end Sys2Proof.Machine

open Sys2Proof Sys2Proof.Machine

/-- Settles O40: the store after the removals by `State.removeIds_eq`, and each lane by
`ReferenceLaw.removed_lane`. -/
theorem objectDropFreesThePages : Obligations.ObjectDropFreesThePages := by
  intro s r rest o x force h lanes pages references kind body held
  have law : ReferenceLaw (s.taken rest) := ⟨references.ids, references.counts, references.named⟩
  have drops := objDrop_held law held force
  refine ⟨fun some_reference unforced => ?_, fun allowed => ?_⟩
  · exact exec_request_of h kind body rfl rfl (drops.trans (if_pos ⟨some_reference, unforced⟩))
  · have passes : ¬(0 < x.references ∧ force = false) := by
      rintro ⟨some_reference, unforced⟩
      rcases allowed with none_left | forced
      · omega
      · rw [forced] at unforced
        cases unforced
    have names (i : Fin 32) (k : ObjectKind) (e : CarouselEntry) (he : e ∈ ((s.taken rest).lane i k).entries)
        (listed : e.id.val ∈ idsNaming (s.taken rest).carousels o) : e.object = o := by
      by_contra other
      exact (law.stays_iff o he).mpr other listed
    have paged := (State.removeIds_keepsStore (idsNaming (s.taken rest).carousels o) (s.taken rest)).store.pages
      ((pageLaw_iff s).mp pages)
    have lane := law.removed_lane (s := s.taken rest) lanes o
    have entries := law.removed_entries (s := s.taken rest) lanes o
    have works := exec_request_of h kind body rfl rfl (drops.trans (if_neg passes))
    obtain ⟨removed, cs, one, after⟩ := State.removeIds_eq names
    rw [after] at works paged
    simp only [after] at lane entries
    have pool := (paged.free o).pool
    obtain ⟨freed, others, perm, memory, differing, corrected, uncorrectable, correctedCapture,
      uncorrectableCapture⟩ := ObjectStore.freed_after_releases one held
    refine ⟨_, works, freed, perm, pool, memory, differing, others, entries,
      fun i k l hl => lane i k hl rfl, corrected, uncorrectable, correctedCapture, uncorrectableCapture, ?_⟩
    exact ⟨rfl, rfl, rfl, rfl, rfl, rfl, rfl, rfl, rfl, rfl, rfl⟩

end

section
/-! PROOFS. The lane that answers a cell request (R130). -/

namespace Sys2Proof.Machine

section Choice

variable {c : Carousel} {st : ObjectStore} {first : Bool}

theorem ObjectKind.eq_other {j k : ObjectKind} (h : j ≠ k) : j = k.other := by
  cases k with
  | text =>
    cases j with
    | text => exact absurd rfl h
    | picture => rfl
  | picture =>
    cases j with
    | text => rfl
    | picture => exact absurd rfl h

theorem ObjectStore.isIn_iff (o : Fin 128) (state : ObjectState) :
    st.isIn o state = true ↔ ∃ x, st.objects[o] = some x ∧ x.state = state := by
  unfold ObjectStore.isIn
  cases st.objects[o] <;> simp

theorem Lane.faultedVisit_iff (l : Lane) (st : ObjectStore) :
    l.faultedVisit st = true ↔ (0 < l.cursor ∨ 0 < l.done) ∧
      ∃ e, l.currentEntry = some e ∧ ∃ x, st.objects[e.object] = some x ∧ x.state = .faulted := by
  simp [Lane.faultedVisit, Lane.midWay, ObjectStore.isIn_iff, Option.any_eq_true]

/-- When a lane can supply a cell, in R130's words. -/
theorem Lane.canSupply_iff (l : Lane) (st : ObjectStore) :
    l.canSupply st = true ↔ l.phase = .running ∧
      (l.owed ≠ none ∨
        (((0 < l.cursor ∨ 0 < l.done) ∧
          ∃ e, l.currentEntry = some e ∧ ∃ x, st.objects[e.object] = some x ∧ x.state = .faulted) ∨
        ∃ e ∈ l.entries, ∃ x, st.objects[e.object] = some x ∧ x.state = .ready)) := by
  rw [← Lane.faultedVisit_iff]
  simp [Lane.canSupply, ObjectStore.isIn_iff, Option.isSome_iff_ne_none, or_assoc]

/-! ### The lane asked first, the other lane, and fill -/

theorem Carousel.answering_choice (able : (c.lane (c.choice first)).canSupply st = true) :
    c.answering st first = some (c.choice first) := if_pos able

theorem Carousel.answering_other (unable : ¬ (c.lane (c.choice first)).canSupply st = true)
    (able : (c.lane (c.choice first).other).canSupply st = true) :
    c.answering st first = some (c.choice first).other := (if_neg unable).trans (if_pos able)

theorem Carousel.answering_none (unable : ∀ j, ¬ (c.lane j).canSupply st = true) :
    c.answering st first = none := (if_neg (unable _)).trans (if_neg (unable _))

end Choice

theorem State.carouselCell_answering {s : State} {i : Fin 32} {first : Bool} {k : ObjectKind}
    (answers : s.carousels[i].answering s.store first = some k) :
    s.carouselCell i first =
      ((((s.setLane i k ((s.lane i k).answerCell i k s.store).lane).withStore
        ((s.lane i k).answerCell i k s.store).store).raiseAll
        ((s.lane i k).answerCell i k s.store).events),
        ((s.lane i k).answerCell i k s.store).cell) := by
  simp only [State.carouselCell, answers]

theorem State.carouselCell_fill {s : State} {i : Fin 32} {first : Bool}
    (fill : s.carousels[i].answering s.store first = none) : s.carouselCell i first = (s, none) := by
  simp only [State.carouselCell, fill]

end Sys2Proof.Machine

open Sys2Proof Sys2Proof.Machine

/-- Settles O33: whether a lane can supply by `Lane.canSupply_iff`, and the three outcomes of
`Carousel.answering`. -/
theorem cellRequestsChooseTheLane : Obligations.CellRequestsChooseTheLane := by
  intro s i first k able asked supplies
  obtain rfl : k = s.carousels[i].choice first := asked
  have able_iff (j : ObjectKind) : able j ↔ (s.carousels[i].lane j).canSupply s.store = true :=
    (supplies j).trans (Lane.canSupply_iff (s.lane i j) s.store).symm
  refine ⟨fun asked_first => ?_, fun j other unable answers => ?_, fun none_able => ?_⟩
  · exact ⟨_, rfl, State.carouselCell_answering (Carousel.answering_choice ((able_iff _).mp asked_first))⟩
  · obtain rfl := ObjectKind.eq_other other
    exact ⟨_, rfl, State.carouselCell_answering
      (Carousel.answering_other (mt (able_iff _).mpr unable) ((able_iff _).mp answers))⟩
  · exact State.carouselCell_fill
      (Carousel.answering_none fun j can => none_able j ((able_iff j).mpr can))

end

section
/-! PROOFS. The requests on a lane: CAR_ADD, CAR_REMOVE, CAR_CLEAR, CAR_RESUME and CAR_READ (R122 to R126,
R128, R129). -/

namespace Sys2Proof.Machine

/-! ### Bodies read and laid out -/

theorem ObjectKind.laneCode_eq (k : ObjectKind) : k.laneCode = if k = .text then 1 else 2 := by
  cases k <;> rfl

theorem flagOctet_isSome {α : Type} (x : Option α) [Decidable (x = none)] :
    flagOctet x.isSome = if x = none then 0 else 1 := by
  cases x <;> simp [flagOctet]

theorem laneOperands_octets (i : Fin 32) (k : ObjectKind) :
    laneOperands [octet i.val, if k = .text then 1 else 2] = some (i, k) := by
  have index := toFin?_field_octet i (by decide) [if k = .text then 1 else 2]
  have lane : laneOperand (field [octet i.val, if k = .text then 1 else 2] 1) = some k := by
    cases k <;> rfl
  simp only [laneOperands, index, lane, Option.bind_eq_bind, Option.bind_some, Option.pure_def]

/-- The marks octet as CAR_ADD gives it (R123). -/
def marksOctet (hold notify once : Bool) : Octet :=
  (if hold then 1 else 0) + (if notify then 2 else 0) + (if once then 4 else 0)

theorem marksOctet_operand (hold notify once : Bool) :
    rangeOperand 0 7 (marksOctet hold notify once).toNat = some (marksOctet hold notify once).toNat ∧
      (marksOctet hold notify once).toNat.testBit 0 = hold ∧
      (marksOctet hold notify once).toNat.testBit 1 = notify ∧
      (marksOctet hold notify once).toNat.testBit 2 = once := by
  revert hold notify once
  decide

theorem CarouselEntry.marks_eq (e : CarouselEntry) : e.marks = marksOctet e.hold e.notify e.once := by
  have all : ∀ hold notify once : Bool,
      octet ((if hold then 1 else 0) + (if notify then 2 else 0) + if once then 4 else 0)
        = marksOctet hold notify once := by decide
  exact all e.hold e.notify e.once

/-- The body of CAR_ADD read back. -/
theorem entryOperand_octets (i : Fin 32) (o : Fin 128) {repeats : Nat} (hold notify once : Bool)
    {position before : Octet} {positioned : Bool} (least : 1 ≤ repeats) (most : repeats ≤ 15)
    (flag : flagOperand position.toNat = some positioned) :
    entryOperand [octet i.val, octet (o.val + 1), octet repeats, marksOctet hold notify once, position,
        before] =
      some { service := i, object := o, repeats := repeats, hold := hold, notify := notify, once := once
             before := if positioned then some before.toNat else none } := by
  have index := toFin?_field_octet i (by decide)
    [octet (o.val + 1), octet repeats, marksOctet hold notify once, position, before]
  have object := objectIndex?_number o [octet repeats, marksOctet hold notify once, position, before]
  obtain ⟨marks, holds, notifies, leaves⟩ := marksOctet_operand hold notify once
  have count : (octet repeats).toNat = repeats := octet_toNat (by omega)
  rw [field_zero] at index object
  simp only [entryOperand, field_zero, field_succ, index, object, count, rangeOperand_of_mem ⟨least, most⟩,
    marks, flag, holds, notifies, leaves, Option.bind_eq_bind, Option.bind_some, Option.pure_def]

/-! ### CAR_ADD (R123, R124) -/

section Adding

variable {s : State} {l : Lane} {e : CarouselEntry} {x : StoredObject} {id : Fin 256}
  {pre post : List CarouselEntry}

/-- The lowest id that no entry has (R124). -/
theorem freeEntryId_lowest {cs : Vector Carousel 32} (new : ∀ f ∈ entriesInUse cs, f.id ≠ id)
    (lowest : ∀ j : Fin 256, j < id → ∃ f ∈ entriesInUse cs, f.id = j) : freeEntryId cs = some id := by
  have unused : lowestUnused 256 ((entriesInUse cs).map fun f => f.id.val) = some id.val := by
    refine List.find?_range_eq_some.mpr ⟨?_, List.mem_range.mpr id.isLt, fun j before => ?_⟩
    · simpa [Fin.ext_iff] using new
    · obtain ⟨f, hf, same⟩ := lowest ⟨j, before.trans id.isLt⟩ before
      simpa using ⟨f, hf, congrArg Fin.val same⟩
  rw [freeEntryId, unused, Option.bind_some, toFin?_val]

/-- An entry placed before another one stands directly in front of it (R122). -/
theorem placeEntry_before {f : CarouselEntry} {later : List CarouselEntry}
    (ids : ((pre ++ f :: later).map CarouselEntry.id).Nodup) (e : CarouselEntry) :
    placeEntry e (some f.id.val) (pre ++ f :: later) = pre ++ e :: f :: later := by
  have passed : ∀ c ∈ pre, decide (c.id.val ≠ f.id.val) = true := fun c hc => by
    simpa [Fin.ext_iff] using id_ne_of_split ids (List.mem_append_left later hc)
  rw [placeEntry, List.takeWhile_append_of_pos passed, List.dropWhile_append_of_pos passed]
  simp

/-- The position that CAR_ADD names: the end, or before an entry of the lane. -/
theorem Lane.position_named {position before : Octet} (ids : (l.entries.map CarouselEntry.id).Nodup)
    (entries : l.entries = pre ++ post)
    (place : position = 0 ∧ post = [] ∨
      position = 1 ∧ ∃ f later, post = f :: later ∧ octet f.id.val = before) :
    ∃ positioned, flagOperand position.toNat = some positioned ∧
      l.hasPosition (if positioned then some before.toNat else none) = true ∧
      ∀ e, placeEntry e (if positioned then some before.toNat else none) l.entries = pre ++ e :: post := by
  rcases place with ⟨rfl, rfl⟩ | ⟨rfl, f, later, rfl, rfl⟩
  · rw [List.append_nil] at entries
    exact ⟨false, rfl, rfl, fun e => by rw [entries]; rfl⟩
  · rw [entries] at ids
    refine ⟨true, rfl, ?_, fun e => ?_⟩
    · rw [if_pos rfl, octet_fin f.id le_rfl, Lane.hasPosition, entries]
      simp
    · rw [if_pos rfl, octet_fin f.id le_rfl, entries, placeEntry_before ids]

theorem laneLaw.entries_of_empty (h : laneLaw l) (empty : l.phase = .empty) : l.entries = [] := by
  by_contra some_left
  exact (h.current some_left).1 empty

theorem Lane.add_empty (empty : l.phase = .empty) (e : CarouselEntry) (before : Option Nat) :
    l.add e before =
      { phase := .running, entries := placeEntry e before l.entries, current := some e.id, cursor := 0
        done := 0, owed := none } := if_pos empty

theorem Lane.add_behind (phase : l.phase ≠ .empty) (e : CarouselEntry) (before : Option Nat) :
    l.add e before = { l with entries := placeEntry e before l.entries } := if_neg phase

theorem ObjectStore.grant_held {st : ObjectStore} {o : Fin 128} (held : st.objects[o] = some x) :
    st.grant o = st.setObject o (some { x with references := x.references + 1 }) := by
  rw [ObjectStore.grant, held]

/-- What CAR_ADD does past its checks. -/
theorem carAdd_passed {b : Octets} {op : EntryOperand} (operand : entryOperand b = some op)
    (defined : s.services[op.service] ≠ none) (held : s.store.objects[op.object] = some x)
    (ready : x.state = .ready) (position : (s.lane op.service x.kind).hasPosition op.before = true)
    (free : freeEntryId s.carousels = some id) :
    carAdd b s = (s.addEntry op x.kind id, .done [octet id.val, x.kind.laneCode]) := by
  have used : s.services[op.service].isNone = false :=
    Option.isNone_eq_false_iff.mpr (Option.isSome_iff_ne_none.mpr defined)
  simp only [carAdd, operand, used, held, ready, position, free]
  rfl

end Adding

/-! ### CAR_RESUME (R128) -/

theorem carResume_lane (s : State) (i : Fin 32) (k : ObjectKind) :
    carResume [octet i.val, if k = .text then 1 else 2] s =
      if (s.lane i k).phase = .held then
        (s.setLane i k { s.lane i k with phase := .running }, .plain .done)
      else (s, .plain .notHeld) := by
  simp only [carResume, laneOperands_octets]

/-! ### CAR_REMOVE (R125) -/

section Removing

variable {s : State} {i : Fin 32} {k : ObjectKind} {e : CarouselEntry} {x : StoredObject}

/-- An entry's id finds it: no two entries in use share one (R121). -/
theorem ReferenceLaw.findEntry_mem (law : ReferenceLaw s) (lanes : LaneLaw s)
    (he : e ∈ (s.lane i k).entries) : findEntry s.carousels e.id.val = some (i, k, e) := by
  cases found : findEntry s.carousels e.id.val with
  | none => exact absurd rfl (findEntry_none found i k e he)
  | some place =>
    obtain ⟨j, m, f⟩ := place
    obtain ⟨hf, value⟩ := findEntry_some found
    have same : f.id = e.id := Fin.ext value
    obtain ⟨rfl, rfl⟩ := law.lane_unique he hf same
    rw [List.inj_on_of_nodup_map (lanes j m).ids hf he same]

/-- What CAR_REMOVE of an entry in use does. -/
theorem carRemove_mem (law : ReferenceLaw s) (lanes : LaneLaw s) (he : e ∈ (s.lane i k).entries)
    (held : s.store.objects[e.object] = some x) :
    carRemove [octet e.id.val] s =
      ((s.setLane i k ((s.lane i k).remove e)).withStore
          (s.store.setObject e.object (some { x with references := x.references - 1 })),
        .done [if ((s.lane i k).remove e).owed = none then 0 else 1]) := by
  have id : field [octet e.id.val] 0 = e.id.val := octet_fin e.id le_rfl
  simp only [carRemove, id, law.findEntry_mem lanes he, State.removeEntry,
    ObjectStore.release_held held, State.lane_withStore, State.lane_setLane, flagOctet_isSome]

/-- The lane that a removal leaves with entries: it moves on when the entry was current (R125). -/
theorem Lane.remove_next {l : Lane} {f : CarouselEntry} {pre post later : List CarouselEntry}
    (entries : l.entries = pre ++ e :: post) (ids : (l.entries.map CarouselEntry.id).Nodup)
    (next : post ++ pre = f :: later) :
    l.remove e =
      if l.current = some e.id then
        { l with
          entries := pre ++ post, current := some f.id, cursor := 0, done := 0
          owed :=
            if 0 < l.cursor ∨ 0 < l.done then
              some { object := objectNumber e.object, index := l.cursor }
            else l.owed }
      else { l with entries := pre ++ post } := by
  split
  · rename_i current
    exact Lane.remove_current entries ids next current
  · rename_i other
    refine Lane.remove_other entries ids (fun none_left => ?_) other
    obtain ⟨rfl, rfl⟩ := List.append_eq_nil_iff.mp none_left
    cases next

end Removing

/-! ### CAR_CLEAR and CAR_READ (R126, R129) -/

section Whole

variable {s : State} (i : Fin 32) (k : ObjectKind)

/-- What CAR_CLEAR of a service's lane does: the lane EMPTY, and a reference released for each entry. -/
theorem carClear_lane (lanes : LaneLaw s) (defined : s.services[i] ≠ none) :
    carClear [octet i.val, if k = .text then 1 else 2] s =
      ((s.setLane i k Lane.initial).withStore (s.store.releaseAll (s.lane i k).entries),
        .done (be16 (s.lane i k).entries.length)) := by
  have used : s.services[i].isNone = false :=
    Option.isNone_eq_false_iff.mpr (Option.isSome_iff_ne_none.mpr defined)
  simp only [carClear, laneOperands_octets, used, State.clearLane_eq (lanes i k)]
  rfl

theorem CarouselEntry.octets_eq (e : CarouselEntry) :
    e.octets = [octet e.id.val, octet (e.object.val + 1), octet e.repeats,
      marksOctet e.hold e.notify e.once] := by
  rw [CarouselEntry.octets, e.marks_eq]
  rfl

/-- What CAR_READ of a lane answers. -/
theorem carRead_lane (s : State) :
    carRead [octet i.val, if k = .text then 1 else 2] s =
      .done ([octet i.val, if k = .text then 1 else 2, (s.lane i k).phase.code]
        ++ be16 (s.lane i k).entries.length ++ [(s.lane i k).currentOctet] ++ be16 (s.lane i k).cursor
        ++ [octet (s.lane i k).done, flagOctet (s.lane i k).owed.isSome]
        ++ be16 (256 - (entriesInUse s.carousels).length)
        ++ (s.lane i k).entries.flatMap fun e =>
          [octet e.id.val, octet (e.object.val + 1), octet e.repeats,
            marksOctet e.hold e.notify e.once]) := by
  simp only [carRead, laneOperands_octets, k.laneCode_eq, funext CarouselEntry.octets_eq]

end Whole

end Sys2Proof.Machine

open Sys2Proof Sys2Proof.Machine

/-- Settles O36: the body by `entryOperand_octets`, the id by `freeEntryId_lowest`, the place by
`Lane.position_named`; CAR_RESUME by the lane's phase. -/
theorem carAddAndResume : Obligations.CarAddAndResume := by
  intro s r rest h lanes
  refine ⟨fun i o x repeats hold notify once position before id pre post kind body least most defined held
    ready new lowest entries place => ?add, fun i k kind body => ?resume⟩
  case add =>
    have law := lanes i x.kind
    obtain ⟨positioned, flag, inLane, placed⟩ := Lane.position_named law.ids entries place
    have adds := carAdd_passed (s := s.taken rest)
      (entryOperand_octets i o hold notify once (before := before) least most flag) defined held ready
      inLane (freeEntryId_lowest new lowest)
    have granted := ObjectStore.grant_held held
    rw [ObjectKind.laneCode_eq, State.addEntry, State.taken_store, granted] at adds
    refine ⟨_, _, exec_request_of h kind body rfl rfl adds, rfl, ?_, ?_⟩
    · exact (Lane.add_entries _ _ _).trans (placed _)
    · split
      · rename_i empty
        have none_left := law.entries_of_empty empty
        obtain ⟨rfl, rfl⟩ := List.append_eq_nil_iff.mp (entries.symm.trans none_left)
        exact (Lane.add_empty empty _ _).trans (by rw [placed]; rfl)
      · rename_i phase
        exact (Lane.add_behind phase _ _).trans (by rw [placed])
  case resume =>
    have resumes := carResume_lane (s.taken rest) i k
    exact ⟨fun held => exec_request_of h kind body rfl rfl (resumes.trans (if_pos held)),
      fun other => exec_request_of h kind body rfl rfl (resumes.trans (if_neg other))⟩

/-- Settles O37: the entry found by `ReferenceLaw.findEntry_mem` and what its removal leaves of the lane,
the cleared lane by `State.clearLane_eq`, and the lane read. -/
theorem carRemoveClearRead : Obligations.CarRemoveClearRead := by
  intro s r rest i k l h lanes references hl
  subst hl
  have law : ReferenceLaw (s.taken rest) := ⟨references.ids, references.counts, references.named⟩
  have ids := (lanes i k).ids
  refine ⟨fun pre post e x kind body entries held => ?remove, fun kind body defined => ?clear,
    fun kind body => ?read⟩
  case remove =>
    have he : e ∈ (s.lane i k).entries := by simp [entries]
    refine ⟨(s.lane i k).remove e,
      exec_request_of h kind body rfl rfl (carRemove_mem law lanes he held), fun none_left => ?_,
      fun f later next => Lane.remove_next entries ids next⟩
    obtain ⟨rfl, rfl⟩ := List.append_eq_nil_iff.mp none_left
    exact Lane.remove_last entries
  case clear =>
    refine ⟨_, exec_request_of h kind body rfl rfl (carClear_lane (s := s.taken rest) i k lanes defined),
      rfl, State.lane_setLane _ i k _, fun j m other => ?_, fun o => s.store.releaseAll_objects _ o,
      s.store.releaseAll_memory _, s.store.releaseAll_free _, rfl, rfl, rfl, rfl, rfl, rfl, rfl, rfl, rfl,
      rfl⟩
    exact (State.lane_setLane_get _ i j k m _).trans
      (if_neg fun same => other (Prod.ext same.1 same.2))
  case read =>
    refine exec_request_of h kind body rfl rfl ?_
    rw [reading, carRead_lane]
    rfl

end

section
/-! PROOFS. The commands that leave the power and the template store alone. -/

namespace Sys2Proof.Machine

/-- The part of the state that the law of the template slots looks at. -/
structure TemplateView where
  powered : Bool
  templates : TemplateStore

def State.templateView (s : State) : TemplateView := { powered := s.powered, templates := s.templates }

section Frame

variable (s : State)

@[simp] theorem State.withControl_templateView (x : Control) :
    (s.withControl x).templateView = s.templateView := rfl
@[simp] theorem State.withLines_templateView (x : Vector TriggerLine 4) :
    (s.withLines x).templateView = s.templateView := rfl
@[simp] theorem State.withCues_templateView (x : Vector CueFilter 4) :
    (s.withCues x).templateView = s.templateView := rfl
@[simp] theorem State.withAlerts_templateView (x : AlertUnit) :
    (s.withAlerts x).templateView = s.templateView := rfl
@[simp] theorem State.withStore_templateView (x : ObjectStore) :
    (s.withStore x).templateView = s.templateView := rfl
@[simp] theorem State.withServices_templateView (x : ServiceTable) :
    (s.withServices x).templateView = s.templateView := rfl
@[simp] theorem State.withOutput_templateView (x : Output) :
    (s.withOutput x).templateView = s.templateView := rfl
@[simp] theorem State.raise_templateView (src : ReportSource) (d : Octets) :
    (s.raise src d).templateView = s.templateView := rfl
@[simp] theorem State.raiseAll_templateView (e : Events) : (s.raiseAll e).templateView = s.templateView :=
  s.raiseAll_field e State.templateView fun _ _ => rfl

end Frame

section Kept

variable (s : State) (b : Octets)

/-! ### Services and plans, the object store, carousels -/

@[simp] theorem State.removeEntry_templateView (i : Fin 32) (k : ObjectKind) (e : CarouselEntry) :
    (s.removeEntry i k e).templateView = s.templateView := rfl

@[simp] theorem State.removeId_templateView (id : Nat) : (s.removeId id).templateView = s.templateView := by
  unfold State.removeId
  split <;> rfl

@[simp] theorem State.clearLane_templateView (i : Fin 32) (k : ObjectKind) :
    (s.clearLane i k).templateView = s.templateView :=
  foldl_field State.templateView (fun u e => u.removeEntry_templateView i k e) _ s

@[simp] theorem State.carouselCell_templateView (i : Fin 32) (first : Bool) :
    (s.carouselCell i first).1.templateView = s.templateView := by
  unfold State.carouselCell
  split
  · rfl
  · exact State.raiseAll_templateView _ _

theorem svcSet_templateView : (svcSet b s).1.templateView = s.templateView := by
  unfold svcSet
  repeat' split
  all_goals rfl

theorem svcDrop_templateView : (svcDrop b s).1.templateView = s.templateView := by
  unfold svcDrop
  repeat' split
  all_goals simp [State.dropService]

theorem planEdit_templateView : (planEdit b s).1.templateView = s.templateView := by
  unfold planEdit
  dsimp only
  repeat' split
  all_goals rfl

theorem planCopy_templateView : (planCopy b s).1.templateView = s.templateView := by
  unfold planCopy
  split <;> rfl

theorem planCommit_templateView : (planCommit b s).1.templateView = s.templateView := by
  unfold planCommit
  repeat' split
  all_goals rfl

theorem planWithdraw_templateView : (planWithdraw b s).1.templateView = s.templateView := by
  unfold planWithdraw
  repeat' split
  all_goals rfl

theorem objOpen_templateView : (objOpen b s).1.templateView = s.templateView := by
  unfold objOpen
  dsimp only
  repeat' split
  all_goals rfl

theorem objLoad_templateView : (objLoad b s).1.templateView = s.templateView := by
  unfold objLoad
  dsimp only
  repeat' split
  all_goals rfl

theorem objClose_templateView : (objClose b s).1.templateView = s.templateView := by
  unfold objClose
  repeat' split
  all_goals rfl

theorem objDrop_templateView : (objDrop b s).1.templateView = s.templateView := by
  have removals (ids : List Nat) : (ids.foldl State.removeId s).templateView = s.templateView :=
    foldl_field State.templateView State.removeId_templateView ids s
  unfold objDrop
  dsimp only
  repeat' split
  all_goals simp [removals]

theorem objRead_templateView : (objRead b s).1.templateView = s.templateView := by
  unfold objRead
  dsimp only
  repeat' split
  all_goals simp

theorem carAdd_templateView : (carAdd b s).1.templateView = s.templateView := by
  unfold carAdd
  repeat' split
  all_goals rfl

theorem carRemove_templateView : (carRemove b s).1.templateView = s.templateView := by
  unfold carRemove
  split <;> rfl

theorem carClear_templateView : (carClear b s).1.templateView = s.templateView := by
  unfold carClear
  repeat' split
  all_goals simp

theorem carResume_templateView : (carResume b s).1.templateView = s.templateView := by
  unfold carResume
  repeat' split
  all_goals rfl

/-! ### Alerts, trigger lines, cue filters -/

@[simp] theorem State.releaseAlert_templateView (origin : Origin) :
    (s.releaseAlert origin).templateView = s.templateView := by
  unfold State.releaseAlert
  repeat' split
  all_goals rfl

@[simp] theorem State.admitFor_templateView (origin : Origin) (c : AlertContent) :
    (s.admitFor origin c).templateView = s.templateView := by
  unfold State.admitFor
  dsimp only
  split <;> simp

@[simp] theorem State.sourceRequest_templateView (origin : Origin) (c : SourceContent) :
    (s.sourceRequest origin c).templateView = s.templateView := by
  unfold State.sourceRequest State.sourceAdmission
  dsimp only
  repeat' split
  all_goals simp

theorem alertRaise_templateView : (alertRaise b s).1.templateView = s.templateView := by
  unfold alertRaise
  dsimp only
  repeat' split
  all_goals simp

theorem alertClear_templateView : (alertClear b s).1.templateView = s.templateView := by
  unfold alertClear
  repeat' split
  all_goals rfl

theorem alertTimerExpiry_templateView (n : Octet) :
    (alertTimerExpiry n s).templateView = s.templateView := by
  unfold alertTimerExpiry
  repeat' split
  all_goals rfl

@[simp] theorem State.trigger_templateView (n : Fin 4) (edge : Edge) (mode : LineMode) :
    (s.trigger n edge mode).templateView = s.templateView := State.sourceRequest_templateView _ _ _

@[simp] theorem State.acceptedEdge_templateView (n : Fin 4) (edge : Edge) :
    (s.acceptedEdge n edge).templateView = s.templateView := by
  unfold State.acceptedEdge
  dsimp only
  repeat' split
  all_goals simp [State.raiseTrigger]

@[simp] theorem State.becomeActive_templateView (n : Fin 4) :
    (s.becomeActive n).templateView = s.templateView := by
  unfold State.becomeActive
  repeat' split
  all_goals simp

theorem filterTimerExpiry_templateView (n : Fin 4) :
    (filterTimerExpiry n s).templateView = s.templateView := by
  unfold filterTimerExpiry
  dsimp only
  repeat' split
  all_goals simp

theorem trigSet_templateView : (trigSet b s).1.templateView = s.templateView := by
  unfold trigSet
  dsimp only
  repeat' split
  all_goals simp

theorem cueSet_templateView : (cueSet b s).1.templateView = s.templateView := by
  unfold cueSet
  repeat' split
  all_goals rfl

theorem cueRead_templateView : (cueRead b s).1.templateView = s.templateView := by
  unfold cueRead
  split <;> rfl

@[simp] theorem State.handOn_templateView (n : Fin 8) (k : Fin 4) :
    (s.handOn n k b).templateView = s.templateView := by
  refine foldl_field State.templateView (fun u m => ?_) _ s
  unfold State.examine
  dsimp only
  repeat' split
  all_goals simp

/-! ### Contributor ports -/

@[simp] theorem State.portEvent_templateView (n : Fin 8) (work : Port → Port × Events) :
    (s.portEvent n work).templateView = s.templateView := State.raiseAll_templateView _ _

theorem portSet_templateView : (portSet b s).1.templateView = s.templateView := by
  unfold portSet
  split <;> rfl

theorem portRenegotiate_templateView : (portRenegotiate b s).1.templateView = s.templateView := by
  unfold portRenegotiate
  repeat' split
  all_goals rfl

theorem portRead_templateView : (portRead b s).1.templateView = s.templateView := by
  unfold portRead
  split <;> rfl

theorem offerWordPeriod_templateView (n : Fin 8) :
    (offerWordPeriod n s).templateView = s.templateView := by
  unfold offerWordPeriod
  split <;> simp

theorem listenTimerExpiry_templateView (n : Fin 8) :
    (listenTimerExpiry n s).templateView = s.templateView := by
  unfold listenTimerExpiry
  split <;> simp

theorem linkTimerExpiry_templateView (n : Fin 8) :
    (linkTimerExpiry n s).templateView = s.templateView := by
  unfold linkTimerExpiry
  split <;> simp

@[simp] theorem State.takeItem_templateView (n : Fin 8) (i : LineItem) :
    (s.takeItem n i).templateView = s.templateView := by
  cases i with
  | word w => rfl
  | failedFrame => rfl
  | frame f =>
    unfold State.takeItem State.takeFrame
    dsimp only
    repeat' split
    · exact (State.handOn_templateView _ _ _ _).trans (State.portEvent_templateView _ _ _)
    · rfl
    · rfl

theorem lineOctets_templateView (n : Fin 8) : (lineOctets n b s).templateView = s.templateView := by
  unfold lineOctets
  dsimp only
  split
  · rfl
  · exact foldl_field State.templateView (fun u i => u.takeItem_templateView n i) _ _

@[simp] theorem State.takeStream_templateView (x : Stream) :
    (s.takeStream x).1.templateView = s.templateView := by
  unfold State.takeStream
  dsimp only
  split <;> rfl

/-! ### The assembler and the output link -/

@[simp] theorem State.putBack_templateView (a : Assembly) : (s.putBack a).templateView = s.templateView :=
  State.raiseAll_templateView _ _

@[simp] theorem State.startFrame_templateView : s.startFrame.1.templateView = s.templateView :=
  State.raiseAll_templateView _ _

theorem framePull_templateView : (framePull s).templateView = s.templateView := by
  unfold framePull
  split
  · rfl
  · exact s.startFrame_templateView
  · rfl
  · unfold State.answerPull
    split
    · exact s.startFrame_templateView
    · exact s.startFrame_templateView
    · split <;> rfl

theorem streamTake_templateView : (streamTake s).templateView = s.templateView := by
  unfold streamTake
  dsimp only
  repeat' split
  all_goals simp

theorem cellRequest_templateView : (cellRequest s).templateView = s.templateView := by
  unfold cellRequest
  dsimp only
  repeat' split
  all_goals simp

theorem alertCellRequest_templateView : (alertCellRequest s).templateView = s.templateView := by
  unfold alertCellRequest
  dsimp only
  repeat' split
  all_goals simp [State.alertTextCell]

theorem frameAssemblyComplete_templateView : (frameAssemblyComplete s).templateView = s.templateView := by
  unfold frameAssemblyComplete
  repeat' split
  all_goals simp [State.setWork]

theorem stallTimerExpiry_templateView : (stallTimerExpiry s).templateView = s.templateView := by
  unfold stallTimerExpiry
  split <;> rfl

/-! ### The control unit -/

theorem unknownKind_templateView : (unknownKind s).templateView = s.templateView := by
  unfold unknownKind
  repeat' split
  all_goals rfl

theorem startingEnd_templateView : (startingEnd s).templateView = s.templateView := by
  unfold startingEnd
  repeat' split
  all_goals rfl

theorem reportSet_templateView : (reportSet b s).1.templateView = s.templateView := by
  unfold reportSet
  split <;> rfl

end Kept

end Sys2Proof.Machine

end

section
/-! PROOFS. The law of the template slots, as one on each slot and on the operation of each slot, and that
every step keeps it (R140 to R142). -/

namespace Sys2Proof.Machine

/-! ### The law slot by slot -/

/-- The operation that a slot's state shows: ERASING an erase, WRITING a write (R142). -/
def SlotState.underway : SlotState → Option OperationKind
  | .erasing => some .erase
  | .writing _ => some .write
  | .blank | .written _ | .damaged => none

theorem SlotState.underway_eq_none_iff (x : SlotState) : x.underway = none ↔ x.busy = false := by
  cases x <;> simp [SlotState.underway, SlotState.busy]

theorem SlotState.underway_eq_erase_iff (x : SlotState) : x.underway = some .erase ↔ x = .erasing := by
  cases x <;> simp [SlotState.underway]

theorem SlotState.underway_eq_write_iff (x : SlotState) :
    x.underway = some .write ↔ ∃ c, x = .writing c := by
  cases x <;> simp [SlotState.underway]

/-- The operation that the operation record has for a slot. -/
def TemplateStore.operationOn (t : TemplateStore) (i : Fin 16) : Option OperationKind :=
  t.operation.bind fun o => if o.slot = i then some o.kind else none

theorem TemplateStore.operationOn_eq_some_iff (t : TemplateStore) (i : Fin 16) (k : OperationKind) :
    t.operationOn i = some k ↔ ∃ n, t.operation = some { kind := k, slot := i, timer := n } := by
  unfold TemplateStore.operationOn
  cases t.operation with
  | none => simp
  | some o =>
    obtain ⟨kind, slot, timer⟩ := o
    simp only [Option.bind_some, Option.ite_none_right_eq_some, Option.some.injEq, Operation.mk.injEq]
    exact ⟨fun ⟨slot, kind⟩ => ⟨timer, kind, slot, rfl⟩, fun ⟨_, kind, slot, _⟩ => ⟨slot, kind⟩⟩

theorem TemplateStore.operationOn_none {t : TemplateStore} (h : t.operation = none) (i : Fin 16) :
    t.operationOn i = none := by
  rw [TemplateStore.operationOn, h, Option.bind_none]

theorem TemplateStore.operationOn_some {t : TemplateStore} {o : Operation} (h : t.operation = some o)
    (i : Fin 16) : t.operationOn i = if o.slot = i then some o.kind else none := by
  rw [TemplateStore.operationOn, h, Option.bind_some]

/-- What R140 and R141 say of one slot. -/
structure Slot.Lawful (x : Slot) : Prop where
  checked : ∀ c, x.state = .written c → c.check = Config.templateCheck c.octets
  fixed : x.lock = .fixed → x.state.isWritten = true
  locked : x.lock ≠ .none → x.state.busy = false

/-- What R140 to R142 say of the store: every slot as it must be, and, with power or under a recorded
operation, in the state of the operation that the record has for it. -/
structure TemplateStore.Lawful (t : TemplateStore) (powered : Bool) : Prop where
  slot : ∀ i : Fin 16, t.slots[i].Lawful
  underway : ∀ i : Fin 16, powered = true ∨ t.operationOn i ≠ none →
    t.slots[i].state.underway = t.operationOn i

theorem TemplateLaw.lawful {s : State} (h : TemplateLaw s) : s.templates.Lawful s.powered := by
  have recorded (i : Fin 16) (k : OperationKind) (on : s.templates.operationOn i = some k) :
      s.templates.slots[i].state.underway = some k := by
    obtain ⟨n, operation⟩ := (s.templates.operationOn_eq_some_iff i k).mp on
    cases k with
    | erase => exact (SlotState.underway_eq_erase_iff _).mpr (h.eraseRecorded i n operation)
    | write => exact (SlotState.underway_eq_write_iff _).mpr (h.writeRecorded i n operation)
  have shown (i : Fin 16) (k : OperationKind) (on : s.powered = true)
      (state : s.templates.slots[i].state.underway = some k) : s.templates.operationOn i = some k := by
    refine (s.templates.operationOn_eq_some_iff i k).mpr ?_
    cases k with
    | erase => exact h.erasing i on ((SlotState.underway_eq_erase_iff _).mp state)
    | write =>
      obtain ⟨c, state⟩ := (SlotState.underway_eq_write_iff _).mp state
      exact h.writing i c on state
  refine ⟨fun i => ⟨h.checked i, h.fixed i, h.locked i⟩, fun i because => ?_⟩
  cases on : s.templates.operationOn i with
  | some k => exact recorded i k on
  | none =>
    have powered := because.resolve_right (· on)
    exact Option.eq_none_iff_forall_ne_some.mpr fun k state =>
      Option.some_ne_none k ((shown i k powered state).symm.trans on)

theorem TemplateStore.Lawful.templateLaw {s : State} (h : s.templates.Lawful s.powered) :
    TemplateLaw s := by
  have recorded (i : Fin 16) (k : OperationKind) (n : Nat)
      (operation : s.templates.operation = some { kind := k, slot := i, timer := n }) :
      s.templates.slots[i].state.underway = some k := by
    have on := (s.templates.operationOn_eq_some_iff i k).mpr ⟨n, operation⟩
    exact (h.underway i (.inr (on ▸ Option.some_ne_none k))).trans on
  have shown (i : Fin 16) (k : OperationKind) (on : s.powered = true)
      (state : s.templates.slots[i].state.underway = some k) :=
    (s.templates.operationOn_eq_some_iff i k).mp ((h.underway i (.inl on)).symm.trans state)
  exact
    { checked := fun i => (h.slot i).checked
      fixed := fun i => (h.slot i).fixed
      locked := fun i => (h.slot i).locked
      erasing := fun i on state => shown i .erase on ((SlotState.underway_eq_erase_iff _).mpr state)
      writing := fun i c on state =>
        shown i .write on ((SlotState.underway_eq_write_iff _).mpr ⟨c, state⟩)
      eraseRecorded := fun i n o => (SlotState.underway_eq_erase_iff _).mp (recorded i _ n o)
      writeRecorded := fun i n o => (SlotState.underway_eq_write_iff _).mp (recorded i _ n o) }

/-! ### Slots that are as they must be -/

section Slots

variable {x : Slot}

/-- A slot with no lock, and no content whose check could be wrong. -/
theorem Slot.lawful_of_unlocked (lock : x.lock = .none) (content : x.state.isWritten = false) :
    x.Lawful where
  checked c h := by rw [h] at content; cases content
  fixed h := by rw [lock] at h; cases h
  locked h := absurd lock h

/-- A slot under no operation may take any lock that does not make FIXED a slot that is not WRITTEN. -/
theorem Slot.Lawful.setLock (h : x.Lawful) {l : Lock} (fixed : l = .fixed → x.state.isWritten = true)
    (idle : l ≠ .none → x.state.busy = false) : ({ x with lock := l } : Slot).Lawful :=
  { checked := h.checked, fixed := fixed, locked := idle }

theorem Lock.cleared_eq_fixed_iff (l : Lock) : l.cleared = .fixed ↔ l = .fixed := by
  cases l <;> simp [Lock.cleared]

theorem Lock.ne_none_of_cleared {l : Lock} (h : l.cleared ≠ .none) : l ≠ .none := by
  rintro rfl
  exact h rfl

theorem Slot.Lawful.cleared (h : x.Lawful) : ({ x with lock := x.lock.cleared } : Slot).Lawful :=
  h.setLock (fun fixed => h.fixed ((Lock.cleared_eq_fixed_iff _).mp fixed))
    fun locked => h.locked (Lock.ne_none_of_cleared locked)

/-- What the start-up read leaves WRITTEN has a check that agreed. -/
theorem SlotState.readBack_eq_written_iff (x : SlotState) (c : TemplateContent) :
    x.readBack = .written c ↔ x = .written c ∧ c.agrees = true := by
  cases x with
  | written d =>
    cases agrees : d.agrees with
    | true =>
      rw [SlotState.readBack_agreeing agrees]
      exact ⟨fun h => ⟨h, SlotState.written.inj h ▸ agrees⟩, And.left⟩
    | false =>
      rw [SlotState.readBack_disagreeing agrees]
      refine ⟨nofun, fun ⟨same, also⟩ => ?_⟩
      rw [SlotState.written.inj same, also] at agrees
      cases agrees
  | _ => simp [SlotState.readBack]

theorem SlotState.readBack_underway (x : SlotState) : x.readBack.underway = none := by
  unfold SlotState.readBack
  repeat' split
  all_goals rfl

theorem Slot.Lawful.readBack (h : x.Lawful) : x.readBack.Lawful where
  checked c written := c.agrees_iff.mp ((SlotState.readBack_eq_written_iff _ c).mp written).2
  fixed fixed := by
    have written := h.fixed ((Lock.cleared_eq_fixed_iff _).mp fixed)
    cases state : x.state with
    | written c =>
      have agrees := c.agrees_iff.mpr (h.checked c state)
      show x.state.readBack.isWritten = true
      rw [state, SlotState.readBack_agreeing agrees]
      rfl
    | _ => rw [state] at written; cases written
  locked _ := (SlotState.underway_eq_none_iff _).mp (SlotState.readBack_underway _)

end Slots

/-! ### The store's operations -/

section Operations

variable {t : TemplateStore} {p : Bool} {i : Fin 16}

/-- One slot written, and the record as it was for the others. -/
theorem TemplateStore.Lawful.set (h : t.Lawful p) {u : TemplateStore} {x : Slot}
    (slots : ∀ j : Fin 16, u.slots[j] = if j = i then x else t.slots[j]) (lawful : x.Lawful)
    (others : ∀ j, j ≠ i → u.operationOn j = t.operationOn j)
    (here : p = true ∨ u.operationOn i ≠ none → x.state.underway = u.operationOn i) : u.Lawful p where
  slot j := by
    rw [slots]
    split
    · exact lawful
    · exact h.slot j
  underway j because := by
    rw [slots]
    by_cases same : j = i
    · subst same
      rw [if_pos rfl]
      exact here because
    · rw [if_neg same]
      rw [others j same] at because ⊢
      exact h.underway j because

theorem TemplateStore.setSlot_get (t : TemplateStore) (i j : Fin 16) (x : SlotState) :
    (t.setSlot i x).slots[j] = if j = i then { t.slots[i] with state := x } else t.slots[j] :=
  set_get t.slots i j _

theorem TemplateStore.setLock_get (t : TemplateStore) (i j : Fin 16) (l : Lock) :
    (t.setLock i l).slots[j] = if j = i then { t.slots[i] with lock := l } else t.slots[j] :=
  set_get t.slots i j _

/-- An operation begun on a slot without a lock, under no other operation. -/
theorem TemplateStore.Lawful.startOperation (h : t.Lawful p) {u : TemplateStore} {x : SlotState} {o : Operation}
    (free : t.slots[i].lock = .none) (idle : t.operation = none)
    (slots : u.slots = (t.setSlot i x).slots) (operation : u.operation = some o) (slot : o.slot = i)
    (kind : x.underway = some o.kind) : u.Lawful p := by
  have on := TemplateStore.operationOn_some operation
  refine h.set (i := i) (x := { t.slots[i] with state := x })
    (fun j => by rw [slots]; exact t.setSlot_get i j x)
    (Slot.lawful_of_unlocked free ?content) (fun j other => ?others) fun _ => ?here
  case content =>
    cases x with
    | written c => cases kind
    | _ => rfl
  case others =>
    rw [on, slot, if_neg other.symm, TemplateStore.operationOn_none idle]
  case here => rw [on, slot, if_pos rfl, ← kind]

theorem TemplateStore.Lawful.erase (h : t.Lawful p) (free : t.slots[i].lock = .none)
    (idle : t.operation = none) : (t.erase i).Lawful p := h.startOperation free idle rfl rfl rfl rfl

theorem TemplateStore.Lawful.write (h : t.Lawful p) (free : t.slots[i].lock = .none)
    (idle : t.operation = none) (c : AlertContent) : (t.write i c).Lawful p :=
  h.startOperation free idle rfl rfl rfl rfl

theorem TemplateStore.Lawful.setLock (h : t.Lawful p) {l : Lock}
    (lawful : ({ t.slots[i] with lock := l } : Slot).Lawful) : (t.setLock i l).Lawful p :=
  h.set (fun j => t.setLock_get i j l) lawful (fun _ _ => rfl) (h.underway i)

/-- The slot of the operation in progress is in that operation's state. -/
theorem TemplateStore.Lawful.underway_of_operation (h : t.Lawful p) {o : Operation}
    (operation : t.operation = some o) : t.slots[o.slot].state.underway = some o.kind := by
  have on : t.operationOn o.slot = some o.kind := by
    rw [TemplateStore.operationOn_some operation, if_pos rfl]
  exact (h.underway o.slot (.inr (on ▸ Option.some_ne_none o.kind))).trans on

/-- So it has no lock. -/
theorem TemplateStore.Lawful.unlocked_of_operation (h : t.Lawful p) {o : Operation}
    (operation : t.operation = some o) : t.slots[o.slot].lock = .none := by
  have underway := h.underway_of_operation operation
  by_contra locked
  rw [(SlotState.underway_eq_none_iff _).mpr ((h.slot o.slot).locked locked)] at underway
  cases underway

/-- The operation in progress ended, and its slot left under none. -/
theorem TemplateStore.Lawful.endOperation (h : t.Lawful p) {u : TemplateStore} {x : SlotState} {o : Operation}
    (operation : t.operation = some o) (slots : u.slots = (t.setSlot o.slot x).slots)
    (ended : u.operation = none) (underway : x.underway = none)
    (checked : ∀ c, x = .written c → c.check = Config.templateCheck c.octets) : u.Lawful p := by
  have free := h.unlocked_of_operation operation
  refine h.set (i := o.slot) (x := { t.slots[o.slot] with state := x })
    (fun j => by rw [slots]; exact t.setSlot_get o.slot j x)
    { checked := checked
      fixed := fun fixed => by rw [show t.slots[o.slot].lock = .fixed from fixed] at free; cases free
      locked := fun locked => absurd free locked } (fun j other => ?others) fun _ => ?here
  case others =>
    rw [TemplateStore.operationOn_none ended, TemplateStore.operationOn_some operation,
      if_neg other.symm]
  case here => rw [TemplateStore.operationOn_none ended]; exact underway

theorem TemplateStore.Lawful.endErase (h : t.Lawful p) {o : Operation} (operation : t.operation = some o) :
    (t.endErase o.slot).Lawful p := h.endOperation operation rfl rfl rfl nofun

theorem TemplateStore.endWrite_writing {c : AlertContent} (h : t.slots[i].state = .writing c) :
    t.endWrite i =
      { (t.setSlot i (.written c.stored)).setMirror i (.written c.stored) with operation := none } := by
  rw [TemplateStore.endWrite, h]

/-- The content stored at the end of a write has the check then computed (R144). -/
theorem TemplateStore.Lawful.endWrite (h : t.Lawful p) {o : Operation} (operation : t.operation = some o)
    (kind : o.kind = .write) : (t.endWrite o.slot).Lawful p := by
  have underway : t.slots[o.slot].state.underway = some .write :=
    kind ▸ h.underway_of_operation operation
  obtain ⟨c, writing⟩ := (SlotState.underway_eq_write_iff _).mp underway
  rw [TemplateStore.endWrite_writing writing]
  refine h.endOperation (x := .written c.stored) operation rfl rfl rfl fun d same => ?_
  obtain rfl := SlotState.written.inj same
  exact c.stored_check

/-- A millisecond leaves every operation on its slot. -/
theorem TemplateStore.operationOn_tick (t : TemplateStore) (i : Fin 16) :
    t.tick.operationOn i = t.operationOn i := by
  unfold TemplateStore.operationOn TemplateStore.tick
  cases t.operation <;> rfl

theorem TemplateStore.Lawful.tick (h : t.Lawful p) : t.tick.Lawful p where
  slot := h.slot
  underway i := by
    rw [TemplateStore.operationOn_tick]
    exact h.underway i

theorem TemplateStore.Lawful.restart (h : t.Lawful p) : t.restart.Lawful p where
  slot i := by
    rw [TemplateStore.restart, mapTable_get]
    exact (h.slot i).cleared
  underway i because := by
    rw [TemplateStore.restart, mapTable_get]
    exact h.underway i because

/-- Whether or not there was power, the read leaves no slot ERASING or WRITING (R150). -/
theorem TemplateStore.Lawful.startUp (h : t.Lawful p) (q : Bool) : t.startUp.Lawful q where
  slot i := by
    rw [TemplateStore.startUp, mapTable_get]
    exact (h.slot i).readBack
  underway i _ := by
    rw [TemplateStore.startUp, mapTable_get]
    exact SlotState.readBack_underway _

/-- Without power a slot may stay ERASING or WRITING under no record, to be found DAMAGED (log 5). -/
theorem TemplateStore.Lawful.powerOff (h : t.Lawful p) : t.powerOff.Lawful false where
  slot i := by
    rw [TemplateStore.powerOff, mapTable_get]
    exact (h.slot i).cleared
  underway i because := absurd rfl (because.resolve_left Bool.false_ne_true)

end Operations

/-! ### The law from one state to another -/

/-- From one state to the other the law of the template slots is kept. -/
def State.KeepsTemplates (s t : State) : Prop := s.templates.Lawful s.powered → t.templates.Lawful t.powered

section Keeps

variable {s t u : State}

theorem State.KeepsTemplates.trans (h : s.KeepsTemplates t) (k : t.KeepsTemplates u) : s.KeepsTemplates u :=
  k ∘ h

theorem State.KeepsTemplates.of_view (h : t.templateView = s.templateView) : s.KeepsTemplates t := by
  have powered : t.powered = s.powered := congrArg TemplateView.powered h
  have templates : t.templates = s.templates := congrArg TemplateView.templates h
  rw [State.KeepsTemplates, powered, templates]
  exact id

theorem event_keepsTemplates {f : State → State} (work : s.KeepsTemplates (f s))
    (h : event f s = .next t) : s.KeepsTemplates t := by
  rcases event_next h with ⟨_, rfl⟩ | ⟨_, rfl⟩
  · exact .of_view rfl
  · exact work.trans (.of_view rfl)

theorem event_keepsTemplates_of_view {f : State → State} (work : ∀ u, (f u).templateView = u.templateView)
    (h : event f s = .next t) : s.KeepsTemplates t := event_keepsTemplates (.of_view (work s)) h

theorem request_keepsTemplates {c : Instr} {owner : Octets → State → State × Answer}
    (work : ∀ b u, State.KeepsTemplates u (owner b u).1) (h : event (request c owner) s = .next t) :
    s.KeepsTemplates t := by
  refine event_keepsTemplates ?_ h
  rcases request_cases c owner s with h | ⟨r, rest, _, ⟨d, a, h, _⟩ | h⟩
  · rw [h]
    exact .of_view rfl
  · rw [h]
    exact .of_view rfl
  · rw [h]
    exact .trans (t := s.withControl rest) (.of_view rfl) ((work r.body _).trans (.of_view rfl))

theorem request_keepsTemplates_of_view {c : Instr} {owner : Octets → State → State × Answer}
    (work : ∀ u b, (owner b u).1.templateView = u.templateView) (h : event (request c owner) s = .next t) :
    s.KeepsTemplates t := request_keepsTemplates (fun b u => .of_view (work u b)) h

end Keeps

/-! ### The commands of the template store, RESTART and power -/

section Owners

variable (b : Octets) (s : State)

theorem tplErase_keepsTemplates : s.KeepsTemplates (tplErase b s).1 := by
  unfold tplErase
  split
  · exact id
  · split
    · exact id
    · split
      · exact id
      · rename_i lock operation
        exact fun law => law.erase (not_not.mp lock) (by simpa using operation)

theorem tplWrite_keepsTemplates : s.KeepsTemplates (tplWrite b s).1 := by
  unfold tplWrite
  split
  · exact id
  · split
    · exact id
    · split
      · exact id
      · rename_i lock operation
        split
        · exact id
        · split
          · exact id
          · exact fun law => law.write (not_not.mp lock) (by simpa using operation) _

/-- A lock asked for and granted: FIXED only for a WRITTEN slot, or one that was FIXED before (R146). -/
theorem tplLock_keepsTemplates : s.KeepsTemplates (tplLock b s).1 := by
  unfold tplLock
  dsimp only
  split
  · rename_i i asked _ _
    split
    · exact id
    · split
      · exact id
      · rename_i idle written
        simp only [Bool.not_eq_true] at idle
        refine fun law => law.setLock ((law.slot i).setLock (fun fixed => ?_) fun _ => idle)
        by_cases before : s.templates.slots[i].lock = .fixed
        · exact (law.slot i).fixed before
        · rw [Lock.join, if_neg before] at fixed
          simpa [fixed] using written
  · exact id

theorem tplUnlock_keepsTemplates : s.KeepsTemplates (tplUnlock b s).1 := by
  unfold tplUnlock
  split
  · exact id
  · split
    · exact id
    · rename_i i _ _
      exact fun law => law.setLock ((law.slot i).setLock nofun (absurd rfl))

theorem eraseEnd_keepsTemplates : s.KeepsTemplates (eraseEnd s) := by
  unfold eraseEnd
  split
  · rename_i operation
    exact fun law => law.endErase operation
  · exact id

theorem writeEnd_keepsTemplates : s.KeepsTemplates (writeEnd s) := by
  unfold writeEnd
  split
  · rename_i operation
    exact fun law => law.endWrite operation rfl
  · exact id

theorem State.restart_keepsTemplates (tag : Octet) : s.KeepsTemplates (s.restart tag) :=
  fun law => law.restart

theorem restartRequest_keepsTemplates : s.KeepsTemplates (restartRequest s) := by
  unfold restartRequest
  split
  · exact id
  · rename_i r rest _
    split
    · exact id
    · unfold restartReady
      repeat' split
      · exact id
      · exact id
      · exact .trans (.of_view rfl) (State.restart_keepsTemplates _ r.tag)

theorem restartAfterAssembly_keepsTemplates : s.KeepsTemplates (restartAfterAssembly s) := by
  unfold restartAfterAssembly
  repeat' split
  · exact id
  · exact id
  · exact s.restart_keepsTemplates _

theorem State.started_keepsTemplates (c : Control) :
    s.KeepsTemplates (s.started c s.templates.startUp true) := fun law => law.startUp true

end Owners

/-! ### Every command -/

section Commands

variable {s t : State}

theorem execTriggerRawChange_keepsTemplates {n : Fin 4} {level : PinLevel}
    (h : execTriggerRawChange n level s = .next t) : s.KeepsTemplates t := by
  unfold execTriggerRawChange at h
  split at h
  · exact event_keepsTemplates (f := triggerRawChange n level) (.of_view rfl) h
  · cases h
    exact .of_view rfl

/-- Every command, by the lemma on its own work. -/
theorem exec_keepsTemplates (c : Instr) (h : exec c s = .next t) : s.KeepsTemplates t := by
  cases c with
  | powerOn straps => cases h; exact s.started_keepsTemplates _
  | hardReset straps =>
    change Host.Outcome.next _ = _ at h
    split at h
    all_goals cases h
    · exact s.started_keepsTemplates _
    · exact id
  | lossOfPower => cases h; exact fun law => law.powerOff
  | tplErase => exact request_keepsTemplates tplErase_keepsTemplates h
  | tplWrite => exact request_keepsTemplates tplWrite_keepsTemplates h
  | tplLock => exact request_keepsTemplates tplLock_keepsTemplates h
  | tplUnlock => exact request_keepsTemplates tplUnlock_keepsTemplates h
  | eraseEnd => exact event_keepsTemplates (eraseEnd_keepsTemplates s) h
  | writeEnd => exact event_keepsTemplates (writeEnd_keepsTemplates s) h
  | restart => exact event_keepsTemplates (restartRequest_keepsTemplates s) h
  | restartAfterAssembly => exact event_keepsTemplates (restartAfterAssembly_keepsTemplates s) h
  | svcRead | planRead | outputRead | directoryRead | storeStatus | storeClear | carRead | tplRead
  | trigRead | alertList | pendingRead | status | linkRead =>
    exact request_keepsTemplates_of_view (fun _ _ => rfl) h
  | svcSet => exact request_keepsTemplates_of_view svcSet_templateView h
  | svcDrop => exact request_keepsTemplates_of_view svcDrop_templateView h
  | planEdit => exact request_keepsTemplates_of_view planEdit_templateView h
  | planCopy => exact request_keepsTemplates_of_view planCopy_templateView h
  | planCommit => exact request_keepsTemplates_of_view planCommit_templateView h
  | planWithdraw => exact request_keepsTemplates_of_view planWithdraw_templateView h
  | portSet => exact request_keepsTemplates_of_view portSet_templateView h
  | portRenegotiate => exact request_keepsTemplates_of_view portRenegotiate_templateView h
  | portRead => exact request_keepsTemplates_of_view portRead_templateView h
  | objOpen => exact request_keepsTemplates_of_view objOpen_templateView h
  | objLoad => exact request_keepsTemplates_of_view objLoad_templateView h
  | objClose => exact request_keepsTemplates_of_view objClose_templateView h
  | objDrop => exact request_keepsTemplates_of_view objDrop_templateView h
  | objRead => exact request_keepsTemplates_of_view objRead_templateView h
  | carAdd => exact request_keepsTemplates_of_view carAdd_templateView h
  | carRemove => exact request_keepsTemplates_of_view carRemove_templateView h
  | carClear => exact request_keepsTemplates_of_view carClear_templateView h
  | carResume => exact request_keepsTemplates_of_view carResume_templateView h
  | trigSet => exact request_keepsTemplates_of_view trigSet_templateView h
  | cueSet => exact request_keepsTemplates_of_view cueSet_templateView h
  | cueRead => exact request_keepsTemplates_of_view cueRead_templateView h
  | alertRaise => exact request_keepsTemplates_of_view alertRaise_templateView h
  | alertClear => exact request_keepsTemplates_of_view alertClear_templateView h
  | reportSet => exact request_keepsTemplates_of_view reportSet_templateView h
  | messageReceived octets | transmitterFree | outputTransmissionEnd | bitFault page group bits =>
    refine event_keepsTemplates ?_ h
    exact .of_view rfl
  | unknownKind => exact event_keepsTemplates_of_view unknownKind_templateView h
  | startingEnd => exact event_keepsTemplates_of_view startingEnd_templateView h
  | framePull => exact event_keepsTemplates_of_view framePull_templateView h
  | streamTake => exact event_keepsTemplates_of_view streamTake_templateView h
  | cellRequest => exact event_keepsTemplates_of_view cellRequest_templateView h
  | alertCellRequest => exact event_keepsTemplates_of_view alertCellRequest_templateView h
  | frameAssemblyComplete => exact event_keepsTemplates_of_view frameAssemblyComplete_templateView h
  | stallTimerExpiry => exact event_keepsTemplates_of_view stallTimerExpiry_templateView h
  | offerWordReceived n octets | contributionFrame n octets =>
    exact event_keepsTemplates_of_view (lineOctets_templateView · octets n) h
  | offerWordPeriod n => exact event_keepsTemplates_of_view (offerWordPeriod_templateView · n) h
  | listenTimerExpiry n => exact event_keepsTemplates_of_view (listenTimerExpiry_templateView · n) h
  | linkTimerExpiry n => exact event_keepsTemplates_of_view (linkTimerExpiry_templateView · n) h
  | triggerRawChange n level => exact execTriggerRawChange_keepsTemplates h
  | filterTimerExpiry n => exact event_keepsTemplates_of_view (filterTimerExpiry_templateView · n) h
  | alertTimerExpiry n => exact event_keepsTemplates_of_view (alertTimerExpiry_templateView · n) h

theorem step_keepsTemplates (h : step s = .next t) : s.KeepsTemplates t := by
  unfold step at h
  split at h
  · cases h
    split
    · exact fun law => law.tick
    · exact id
  · rename_i c rest _
    exact .trans (t := s.withPending rest) (.of_view rfl) (exec_keepsTemplates c h)

end Commands

end Sys2Proof.Machine

open Sys2Proof Sys2Proof.Machine

/-- Settles O55: the law read slot by slot, through what every step keeps of it. -/
theorem templateLawKept : Obligations.TemplateLawKept := by
  intro s t law h
  exact (step_keepsTemplates h law.lawful).templateLaw

end

section
/-! PROOFS. The requests of the template store, the ends of its operations, and the start-up read
(R141, R143 to R150). -/

namespace Sys2Proof.Machine

/-! ### A content laid out and read back (R144) -/

theorem AlertContent.octets_length (c : AlertContent) : c.octets.length = 249 := by
  simp [AlertContent.octets]

theorem levelOperand_val {l : Fin 8} (h : l ≠ 0) : levelOperand l.val = some l := by
  rw [levelOperand, if_neg (Fin.val_ne_zero_iff.mpr h), toFin?_val]

/-- The octets of a content within its ranges, behind any others, read back as the content. -/
theorem contentOperand_octets (a : Octets) {c : AlertContent} {leastText : Nat} (h : c.Valid leastText) :
    contentOperand (a ++ c.octets) a.length leastText = some c := by
  obtain ⟨leastLength, greatestLength⟩ := h.text
  have body : c.octets = octet c.level.val :: (be16 c.regions.toNat ++ (streamOctets c.stream
      ++ (be16 c.duration ++ (octet c.text.length :: padTo 240 c.text)))) := by
    simp [AlertContent.octets]
  have level : field (a ++ c.octets) a.length = c.level.val := by
    simp [body, field_behind, octet_fin]
  have regions : field16 (a ++ c.octets) (a.length + 1) = c.regions.toNat := by
    simp [body, field16_behind, field16_be16 c.regions.isLt]
  have stream : streamOperand (a ++ c.octets) (a.length + 3) = some c.stream := by
    simp [body, streamOperand_behind, streamOperand_succ, streamOperand_streamOctets]
  have duration : field16 (a ++ c.octets) (a.length + 6) = c.duration := by
    simp [body, field16_behind, field16_be16 (show c.duration < 65536 by have := h.duration; omega)]
  have length : field (a ++ c.octets) (a.length + 8) = c.text.length := by
    simp [body, field_behind, octet_toNat (show c.text.length < 256 by omega)]
  have text : span (a ++ c.octets) (a.length + 9) c.text.length = c.text := by
    simpa [body, span_behind, span_succ] using span_padTo greatestLength []
  simp only [contentOperand, level, regions, stream, duration, length, levelOperand_val h.level,
    regionsOperand_toNat h.regions, rangeOperand_of_mem ⟨Nat.zero_le _, h.duration⟩,
    rangeOperand_of_mem h.text, text, Option.bind_eq_bind, Option.bind_some]
  rfl

/-! ### The requests, by the slot and the operation in progress (R143, R144, R146 to R148) -/

section Requests

variable (s : State) (i : Fin 16)

theorem tplErase_eq :
    tplErase [octet i.val] s =
      if s.templates.slots[i].lock ≠ .none then (s, .plain .locked)
      else if s.templates.operation.isSome then (s, .plain .busy)
      else (s.withTemplates (s.templates.erase i), .plain .accepted) := by
  simp only [tplErase, toFin?_field_octet i (by decide)]

theorem tplWrite_eq {c : AlertContent} (valid : c.Valid 1) :
    tplWrite (octet i.val :: c.octets) s =
      if s.templates.slots[i].lock ≠ .none then (s, .plain .locked)
      else if s.templates.operation.isSome then (s, .plain .busy)
      else if s.templates.slots[i].state ≠ .blank then (s, .plain .notBlank)
      else (s.withTemplates (s.templates.write i c), .plain .accepted) := by
  have content : contentOperand (octet i.val :: c.octets) 1 1 = some c :=
    contentOperand_octets [octet i.val] valid
  simp only [tplWrite, toFin?_field_octet i (by decide), content]

theorem tplLock_eq {a : Octet} {asked : Lock} (lock : lockOperand a.toNat = some asked) :
    tplLock [octet i.val, a] s =
      if s.templates.slots[i].state.busy = true then (s, .plain .busy)
      else if asked = .fixed ∧ s.templates.slots[i].state.isWritten = false then (s, .plain .wrongState)
      else
        (s.withTemplates (s.templates.setLock i (s.templates.slots[i].lock.join asked)),
          .done [(s.templates.slots[i].lock.join asked).code]) := by
  have second : lockOperand (field [octet i.val, a] 1) = some asked := lock
  simp only [tplLock, toFin?_field_octet i (by decide), second, Bool.not_eq_true']

/-- A lock granted (R146). -/
theorem tplLock_granted {a : Octet} {asked : Lock} (lock : lockOperand a.toNat = some asked)
    (idle : s.templates.slots[i].state.busy = false)
    (written : asked = .fixed → s.templates.slots[i].state.isWritten = true) :
    tplLock [octet i.val, a] s =
      (s.withTemplates (s.templates.setLock i (s.templates.slots[i].lock.join asked)),
        .done [(s.templates.slots[i].lock.join asked).code]) := by
  rw [tplLock_eq s i lock, idle, if_neg nofun, if_neg]
  rintro ⟨fixed, unwritten⟩
  rw [written fixed] at unwritten
  cases unwritten

theorem tplUnlock_eq :
    tplUnlock [octet i.val] s =
      if s.templates.slots[i].lock = .fixed then (s, .plain .locked)
      else (s.withTemplates (s.templates.setLock i .none), .plain .done) := by
  simp only [tplUnlock, toFin?_field_octet i (by decide)]

theorem tplRead_eq :
    tplRead [octet i.val] s =
      if s.templates.operation.isSome then .plain .busy
      else
        .done ([octet i.val, s.templates.slots[i].state.octets.1, s.templates.slots[i].lock.code]
          ++ s.templates.slots[i].state.octets.2) := by
  simp only [tplRead, toFin?_field_octet i (by decide)]

end Requests

/-! ### What the two operations leave, and their ends (R143 to R145, R149) -/

section Operations

variable {s : State} {t : TemplateStore} {i : Fin 16}

theorem TemplateStore.erase_eq (free : t.slots[i].lock = .none) :
    t.erase i =
      { slots := t.slots.set i { state := .erasing, lock := .none }
        operation := some { kind := .erase, slot := i, timer := 40 }
        mirror := t.mirror.set i .blank } := by
  rw [← free]
  rfl

theorem TemplateStore.write_eq (free : t.slots[i].lock = .none) (c : AlertContent) :
    t.write i c =
      { t with
        slots := t.slots.set i { state := .writing c, lock := .none }
        operation := some { kind := .write, slot := i, timer := 8 } } := by
  rw [← free]
  rfl

theorem eraseEnd_due (h : s.templates.operation = some { kind := .erase, slot := i, timer := 0 }) :
    eraseEnd s
      = (s.withTemplates (s.templates.endErase i)).raise .templateDone [octet i.val, 1, 0] := by
  rw [eraseEnd, h]
  rfl

theorem writeEnd_due (h : s.templates.operation = some { kind := .write, slot := i, timer := 0 }) :
    writeEnd s
      = (s.withTemplates (s.templates.endWrite i)).raise .templateDone [octet i.val, 2, 3] := by
  rw [writeEnd, h]
  rfl

/-- The end of an erase is not that of a write. -/
theorem eraseEnd_of_write {n : Nat}
    (h : s.templates.operation = some { kind := .write, slot := i, timer := n }) : eraseEnd s = s := by
  rw [eraseEnd, h]

theorem writeEnd_of_erase {n : Nat}
    (h : s.templates.operation = some { kind := .erase, slot := i, timer := n }) : writeEnd s = s := by
  rw [writeEnd, h]

/-- A content with its check is what the end of its write stores (R144). -/
theorem TemplateContent.eq_stored {w : TemplateContent} {c : AlertContent} (content : w.toAlertContent = c)
    (check : w.check = Config.templateCheck c.octets) : w = c.stored := by
  subst content
  obtain ⟨content, computed⟩ := w
  exact congrArg (TemplateContent.mk content) check

/-- An event of a part with power, by what its effect is. -/
theorem event_of_effect {f : State → State} {u : State} (on : s.powered = true) (effect : f s = u) :
    event f s = .next u.choose := by
  rw [event_on on, effect]

end Operations

/-! ### Locks (R146) -/

theorem Lock.join_fixed (l : Lock) : l.join .fixed = .fixed := ite_self _

theorem Lock.join_held_code (l : Lock) : (l.join .held).code = if l = .fixed then 2 else 1 := by
  cases l <;> rfl

theorem SlotState.busy_iff (x : SlotState) : x.busy = true ↔ x = .erasing ∨ ∃ c, x = .writing c := by
  cases x <;> simp [SlotState.busy]

theorem SlotState.idle_of_written {x : SlotState} {c : TemplateContent} (h : x = .written c) :
    x.busy = false ∧ x.isWritten = true := by
  subst h
  exact ⟨rfl, rfl⟩

theorem SlotState.idle_without_content {x : SlotState} (h : x = .blank ∨ x = .damaged) :
    x.busy = false ∧ x.isWritten = false := by
  rcases h with rfl | rfl <;> exact ⟨rfl, rfl⟩

/-! ### What TPL_READ shows (R148) -/

theorem padTo_nil (n : Nat) : padTo n [] = List.replicate n 0 := by simp [padTo]

theorem SlotState.octets_without_content {x : SlotState} (h : x = .blank ∨ x = .damaged) :
    x.octets = (if x = .blank then 0 else 4, List.replicate 249 0) := by
  rcases h with rfl | rfl
  · rw [if_pos rfl, ← padTo_nil]
    rfl
  · rw [if_neg nofun, ← padTo_nil]
    rfl

/-! ### The start-up read (R141, R150) -/

/-- An operation cut short, or a slot that was DAMAGED, is found DAMAGED (R150). -/
theorem SlotState.readBack_otherwise {x : SlotState} (blank : x ≠ .blank)
    (written : ∀ c, x ≠ .written c) : x.readBack = .damaged := by
  cases x with
  | blank => exact absurd rfl blank
  | written c => exact absurd rfl (written c)
  | _ => rfl

section StartUp

variable (t : TemplateStore) (i : Fin 16)

theorem TemplateStore.startUp_slot : t.startUp.slots[i] = t.slots[i].readBack := mapTable_get _ _ i

theorem TemplateStore.startUp_mirror : t.startUp.mirror[i] = t.slots[i].state.readBack.mirrored :=
  mapTable_get _ _ i

theorem TemplateStore.powerOff_slot :
    t.powerOff.slots[i] = { t.slots[i] with lock := t.slots[i].lock.cleared } := mapTable_get _ _ i

end StartUp

end Sys2Proof.Machine

open Sys2Proof Sys2Proof.Machine

/-- Settles O44: the two requests by `tplErase_eq` and `tplWrite_eq`, the ends by the operation record. -/
theorem templateEraseAndWrite : Obligations.TemplateEraseAndWrite := by
  intro s i
  refine ⟨fun r rest h kind body => ?erase, fun r rest c h kind valid body => ?write,
    fun on left => ⟨event_of_effect on (eraseEnd_otherwise left),
      event_of_effect on (writeEnd_otherwise left)⟩,
    fun on operation => ⟨event_of_effect on (writeEnd_of_erase operation),
      event_of_effect on (eraseEnd_due operation)⟩,
    fun c w on operation writing content check =>
      ⟨event_of_effect on (eraseEnd_of_write operation), ?writeEnd⟩⟩
  case erase =>
    have erases := tplErase_eq (s.taken rest) i
    refine ⟨fun free idle => ?_, fun locked => ?_, fun free busy => ?_⟩
    all_goals refine exec_request_of h kind body rfl rfl (erases.trans ?_)
    · rw [State.taken_templates, if_neg (not_not.mpr free), idle, if_neg nofun,
        TemplateStore.erase_eq free]
      rfl
    · exact if_pos locked
    · exact (if_neg (not_not.mpr free)).trans (if_pos (Option.isSome_iff_ne_none.mpr busy))
  case write =>
    have writes := tplWrite_eq (s.taken rest) i valid
    have fits : bodyFits 0x61 (octet i.val :: c.octets).length = true := by
      rw [List.length_cons, c.octets_length]
      rfl
    refine ⟨fun blank idle => ?_, fun locked => ?_, fun free busy => ?_, fun free idle held => ?_⟩
    all_goals refine exec_request_of h kind body rfl fits (writes.trans ?_)
    · have free : s.templates.slots[i].lock = .none := by rw [blank]
      have empty : s.templates.slots[i].state = .blank := by rw [blank]
      rw [State.taken_templates, if_neg (not_not.mpr free), idle, if_neg nofun,
        if_neg (not_not.mpr empty), TemplateStore.write_eq free]
      rfl
    · exact if_pos locked
    · exact (if_neg (not_not.mpr free)).trans (if_pos (Option.isSome_iff_ne_none.mpr busy))
    · rw [State.taken_templates, if_neg (not_not.mpr free), idle, if_neg nofun, if_pos held]
      rfl
  case writeEnd =>
    obtain rfl := TemplateContent.eq_stored content check
    refine event_of_effect on ((writeEnd_due operation).trans ?_)
    rw [TemplateStore.endWrite_writing writing]
    rfl

/-- Settles O45: TPL_LOCK by `tplLock_eq`, TPL_READ by `tplRead_eq`. -/
theorem templateLocksAndRead : Obligations.TemplateLocksAndRead := by
  intro s r rest i slot h hslot
  subst hslot
  refine ⟨fun kind body idle => ?held, fun c kind body written => ?fixed,
    fun a kind body asked underway => ?busy, fun kind body unwritten => ?wrongState,
    fun kind body busy => ?readBusy, fun kind body idle => ⟨fun c written => ?readWritten,
      fun empty => ?readEmpty⟩⟩
  case held =>
    refine exec_request_of h kind body rfl rfl
      ((tplLock_granted (s.taken rest) i (asked := .held) rfl idle nofun).trans ?_)
    rw [State.taken_templates, Lock.join_held_code]
    rfl
  case fixed =>
    obtain ⟨idle, full⟩ := SlotState.idle_of_written written
    refine exec_request_of h kind body rfl rfl
      ((tplLock_granted (s.taken rest) i (asked := .fixed) rfl idle fun _ => full).trans ?_)
    rw [State.taken_templates, Lock.join_fixed]
    rfl
  case busy =>
    have busy := (SlotState.busy_iff _).mpr underway
    have lock : ∃ l, lockOperand a.toNat = some l := by
      rcases asked with rfl | rfl
      · exact ⟨.held, rfl⟩
      · exact ⟨.fixed, rfl⟩
    obtain ⟨l, lock⟩ := lock
    exact exec_request_of h kind body rfl rfl ((tplLock_eq (s.taken rest) i lock).trans (if_pos busy))
  case wrongState =>
    obtain ⟨idle, empty⟩ := SlotState.idle_without_content unwritten
    refine exec_request_of h kind body rfl rfl ((tplLock_eq (s.taken rest) i (asked := .fixed) rfl).trans ?_)
    exact (if_neg (Bool.eq_false_iff.mp idle)).trans (if_pos ⟨rfl, empty⟩)
  case readBusy =>
    refine exec_request_of h kind body rfl rfl (congrArg (Prod.mk _) ((tplRead_eq (s.taken rest) i).trans ?_))
    exact if_pos (Option.isSome_iff_ne_none.mpr busy)
  case readWritten =>
    refine exec_request_of h kind body rfl rfl (congrArg (Prod.mk _) ((tplRead_eq (s.taken rest) i).trans ?_))
    rw [State.taken_templates, idle, if_neg nofun, written]
    rfl
  case readEmpty =>
    refine exec_request_of h kind body rfl rfl (congrArg (Prod.mk _) ((tplRead_eq (s.taken rest) i).trans ?_))
    rw [State.taken_templates, idle, if_neg nofun, SlotState.octets_without_content empty]
    rfl

/-- Settles O46: the slot out of range, and `tplUnlock_eq` for the others. -/
theorem tplUnlock : Obligations.TplUnlock := by
  intro s r rest o h kind body
  refine ⟨fun above => ?range, fun i same => ?slot⟩
  case range =>
    refine exec_request_of h kind body rfl rfl ?_
    rw [Sys2Proof.Machine.tplUnlock, field_zero, toFin?_ge above]
    rfl
  case slot =>
    subst same
    have unlocks := tplUnlock_eq (s.taken rest) i
    exact ⟨fun fixed => exec_request_of h kind body rfl rfl (unlocks.trans (if_pos fixed)),
      fun other => exec_request_of h kind body rfl rfl (unlocks.trans (if_neg other))⟩

/-- Settles O5: each slot by `Slot.readBack`, and what the loss of power left of it. -/
theorem startUpReadsTheTemplates : Obligations.StartUpReadsTheTemplates := by
  refine ⟨fun c straps s start => ?startUp, fun s => ?powerOff⟩
  case startUp =>
    obtain ⟨cause, starts⟩ : ∃ cause, (c = .powerOn straps ∧ cause = StartCause.powerOn) ∨
        (c = .hardReset straps ∧ cause = .hardReset ∧ s.powered = true) :=
      start.elim (fun up => ⟨_, .inl ⟨up, rfl⟩⟩) fun ⟨reset, on⟩ => ⟨_, .inr ⟨reset, rfl, on⟩⟩
    refine ⟨_, exec_start starts, rfl, fun i => ?_⟩
    have slot := s.templates.startUp_slot i
    have state : s.templates.startUp.slots[i].state = s.templates.slots[i].state.readBack :=
      congrArg Slot.state slot
    have mirror := s.templates.startUp_mirror i
    refine ⟨(congrArg Slot.lock slot).trans (Lock.cleared_eq _), ?_⟩
    split
    · rename_i blank
      rw [blank] at state mirror
      exact ⟨state, mirror⟩
    · rename_i x written
      rw [written] at state mirror
      refine ⟨fun agrees => ?_, fun differs => ?_⟩
      · rw [SlotState.readBack_agreeing (x.agrees_iff.mpr agrees)] at state mirror
        exact ⟨state, mirror⟩
      · have disagrees := Bool.eq_false_iff.mpr (mt x.agrees_iff.mp differs)
        rw [SlotState.readBack_disagreeing disagrees] at state mirror
        exact ⟨state, mirror⟩
    · rename_i blank written
      rw [SlotState.readBack_otherwise blank written] at state mirror
      exact ⟨state, mirror⟩
  case powerOff =>
    refine ⟨_, rfl, rfl, rfl, rfl, rfl, fun i => vector_replicate_get _ i,
      fun o => vector_replicate_get _ o, rfl, fun i => ?_⟩
    have slot := s.templates.powerOff_slot i
    have state : s.templates.powerOff.slots[i].state = s.templates.slots[i].state := by rw [slot]
    have lock : s.templates.powerOff.slots[i].lock = s.templates.slots[i].lock.cleared := by rw [slot]
    exact ⟨state, lock ▸ Lock.cleared_eq_fixed_iff _⟩

end

section
/-! PROOFS. The admission a source asks for, with its new number, and the match of a cue filter
(R157, R158, R161, R162, R167, R170, R171). -/

namespace Sys2Proof.Machine

/-! ### A new number is free (R167) -/

theorem nextNumber_ne_zero (n : Octet) : nextNumber n ≠ 0 := by
  unfold nextNumber
  split
  · decide
  · bv_omega

theorem nextNumber_toNat (n : Octet) : (nextNumber n).toNat = n.toNat % 255 + 1 := by
  unfold nextNumber
  split
  · subst n
    rfl
  · bv_omega

/-- The numbers met from n on are numbered from 1 to 255 in a circle. -/
theorem nextNumber_iterate_toNat (n : Octet) (j : Nat) :
    (nextNumber^[j + 1] n).toNat = (n.toNat + j) % 255 + 1 := by
  induction j with
  | zero => exact nextNumber_toNat n
  | succ j ih =>
    rw [Function.iterate_succ_apply', nextNumber_toNat, ih]
    omega

theorem freeNumber_ne_zero (held : List Octet) (k : Nat) : ∀ n, freeNumber held n k ≠ 0 := by
  induction k with
  | zero => exact nextNumber_ne_zero
  | succ k ih =>
    intro n
    rw [freeNumber]
    split
    · exact ih _
    · exact nextNumber_ne_zero n

/-- An answer that is held comes only after k + 1 held numbers. -/
theorem iterate_mem_of_freeNumber_mem {held : List Octet} {k : Nat} : ∀ {n : Octet},
    freeNumber held n k ∈ held → ∀ j ≤ k, nextNumber^[j + 1] n ∈ held := by
  induction k with
  | zero =>
    intro n taken j hj
    obtain rfl := Nat.le_zero.mp hj
    exact taken
  | succ k ih =>
    intro n taken j hj
    rw [freeNumber] at taken
    split at taken
    · rename_i next
      cases j with
      | zero => exact List.contains_iff_mem.mp next
      | succ j => exact ih taken j (by omega)
    · rename_i next
      exact absurd (List.contains_iff_mem.mpr taken) next

/-- One number more than are held is looked at, and those looked at are distinct. -/
theorem freeNumber_notMem {held : List Octet} (few : held.length < 255) (n : Octet) :
    freeNumber held n held.length ∉ held := by
  intro taken
  have distinct : ((List.range (held.length + 1)).map fun j => nextNumber^[j + 1] n).Nodup := by
    refine List.nodup_range.map_on fun i hi j hj same => ?_
    rw [List.mem_range] at hi hj
    have := congrArg BitVec.toNat same
    rw [nextNumber_iterate_toNat, nextNumber_iterate_toNat] at this
    omega
  have inside : ((List.range (held.length + 1)).map fun j => nextNumber^[j + 1] n) ⊆ held := by
    intro x hx
    obtain ⟨j, hj, rfl⟩ := List.mem_map.mp hx
    exact iterate_mem_of_freeNumber_mem taken j (Nat.lt_succ_iff.mp (List.mem_range.mp hj))
  have := (distinct.subperm inside).length_le
  simp at this

theorem AlertUnit.newNumber_ne_zero (u : AlertUnit) : u.newNumber ≠ 0 := freeNumber_ne_zero _ _ _

theorem AlertUnit.newNumber_free {u : AlertUnit} (few : u.alerts.length < 255) :
    ∀ a ∈ u.alerts, a.number ≠ u.newNumber := by
  intro a ha same
  have free := freeNumber_notMem (held := u.alerts.map Alert.number) (by simpa using few) u.lastNumber
  rw [List.length_map] at free
  exact free (List.mem_map.mpr ⟨a, ha, same⟩)

/-! ### Admission (R170, R171) -/

section Admission

variable {u v : AlertUnit} {origin : Origin} {c : AlertContent} {events : Events}

/-- The alert unit with a new alert behind the others, IN_FORCE: ALERT_ACTIVE is asserted. -/
theorem AlertUnit.enter_unit (u : AlertUnit) (origin : Origin) (c : AlertContent) :
    (u.enter origin c).unit =
      { u with
        alerts := u.alerts ++
          [{ number := u.newNumber, stamp := u.counter + 1, origin := origin, content := c
             remaining := c.duration * 1000, state := .inForce }]
        lastNumber := u.newNumber, counter := u.counter + 1, active := true } := by
  simp [AlertUnit.enter, AlertUnit.withAlerts, Alert.fresh, Alert.inForce]

theorem AlertUnit.makeRoom_below (room : u.alerts.length < 8) (level : Fin 8) :
    u.makeRoom level = some (u, []) := if_pos room

theorem AlertUnit.without_length_lt {a : Alert} (ha : a ∈ u.alerts) :
    (u.without a.number).length < u.alerts.length :=
  List.length_filter_lt_length_iff_exists.mpr ⟨a, ha, by simp⟩

/-- What making room can leave: the unit itself with room in its list, or one alert fewer. -/
theorem AlertUnit.makeRoom_cases {level : Fin 8} (h : u.makeRoom level = some (v, events)) :
    (u.alerts.length < 8 ∧ v = u ∧ events = []) ∨
      ∃ a ∈ u.alerts, v = u.withAlerts (u.without a.number) := by
  unfold AlertUnit.makeRoom at h
  split at h
  · rename_i room
    cases h
    exact .inl ⟨room, rfl, rfl⟩
  · split at h
    · rename_i a found
      cases h
      exact .inr ⟨a, List.mem_of_find?_eq_some found, rfl⟩
    · split at h
      · obtain ⟨a, found, same⟩ := Option.map_eq_some_iff.mp h
        cases same
        exact .inr ⟨a, List.mem_reverse.mp (List.mem_of_find?_eq_some found), rfl⟩
      · cases h

theorem AlertUnit.makeRoom_counter {level : Fin 8} (h : u.makeRoom level = some (v, events)) :
    v.counter = u.counter := by
  obtain ⟨_, rfl, _⟩ | ⟨_, _, rfl⟩ := AlertUnit.makeRoom_cases h <;> rfl

/-- Of a list of at most 8 alerts, at most 7 are left where room is made. -/
theorem AlertUnit.makeRoom_length {level : Fin 8} (h : u.makeRoom level = some (v, events))
    (full : u.alerts.length ≤ 8) : v.alerts.length < 8 := by
  obtain ⟨room, rfl, _⟩ | ⟨a, ha, rfl⟩ := AlertUnit.makeRoom_cases h
  · exact room
  · exact Nat.lt_of_lt_of_le (AlertUnit.without_length_lt ha) full

theorem AlertUnit.enlist_refused (refused : u.counter = BitVec.allOnes 32 ∨ u.makeRoom c.level = none) :
    u.enlist origin c = { unit := u, number := none, events := [] } := by
  unfold AlertUnit.enlist
  split
  · rfl
  · rename_i below
    rw [refused.resolve_left below]

theorem AlertUnit.enlist_room (below : u.counter ≠ BitVec.allOnes 32)
    (room : u.makeRoom c.level = some (v, events)) :
    u.enlist origin c =
      { v.enter origin c with events := events ++ (v.enter origin c).events } := by
  rw [AlertUnit.enlist, if_neg below, room]

variable {s : State}

/-- An admission refused to a source loses its alert (R171). -/
theorem State.admitFor_refused
    (refused : s.alerts.counter = BitVec.allOnes 32 ∨ s.alerts.makeRoom c.level = none) :
    s.admitFor origin c = s.raise .alertLost [origin.code, octet c.level.val] := by
  rw [State.admitFor, AlertUnit.enlist_refused refused]

/-- An admission carried out for a source, under a number that is free where room is made (R167, R170). -/
theorem State.admitFor_room (full : s.alerts.alerts.length ≤ 8)
    (below : s.alerts.counter ≠ BitVec.allOnes 32)
    (room : s.alerts.makeRoom c.level = some (v, events)) :
    ∃ number : Octet, number ≠ 0 ∧ (∀ a ∈ v.alerts, a.number ≠ number) ∧
      s.admitFor origin c
        = (s.withAlerts
          { v with
            alerts := v.alerts ++
              [{ number := number, stamp := s.alerts.counter + 1, origin := origin, content := c
                 remaining := c.duration * 1000, state := .inForce }]
            lastNumber := number, counter := s.alerts.counter + 1, active := true }).raiseAll
          (events ++ [(.alertAdmitted, [number, origin.code, octet c.level.val])]) := by
  have few := AlertUnit.makeRoom_length room full
  refine ⟨v.newNumber, v.newNumber_ne_zero, AlertUnit.newNumber_free (by omega), ?_⟩
  rw [State.admitFor, AlertUnit.enlist_room below room, AlertUnit.enter_unit,
    AlertUnit.makeRoom_counter room]
  rfl

end Admission

/-! ### A source's request (R157, R158) -/

section Sources

variable {s : State} {origin : Origin} {source : SourceContent} {c : AlertContent} {a : Alert}

/-- The template's content, where the mirror has one. -/
theorem State.sourceRequest_written {w : TemplateContent}
    (h : s.templates.mirror[source.slot] = .written w) :
    s.sourceRequest origin source = s.sourceAdmission origin w.toAlertContent := by
  rw [State.sourceRequest, buildContent, h]
  rfl

/-- The fallback with TEMPLATE_UNUSABLE, where it has none. -/
theorem State.sourceRequest_fallback (h : s.templates.mirror[source.slot].content = none) :
    s.sourceRequest origin source
      = (s.raise .templateUnusable
          [origin.code, octet source.slot.val, s.templates.mirror[source.slot].code]).sourceAdmission origin
        { level := source.level, regions := source.regions, stream := none, duration := 0
          text := [] } := by
  rw [State.sourceRequest, buildContent, h]
  rfl

theorem AlertUnit.ofOrigin_eq_none {u : AlertUnit} (new : ∀ a ∈ u.alerts, a.origin ≠ origin) :
    u.ofOrigin origin = none := List.find?_eq_none.mpr fun a ha => by simpa using new a ha

/-- A source without an alert in the list asks for ordinary admission. -/
theorem State.sourceAdmission_new (new : ∀ a ∈ s.alerts.alerts, a.origin ≠ origin) :
    s.sourceAdmission origin c = s.admitFor origin c := by
  rw [State.sourceAdmission, AlertUnit.ofOrigin_eq_none new]

variable (law : AlertListLaw s)

include law

theorem AlertListLaw.eq_of_number {a b : Alert} (ha : a ∈ s.alerts.alerts) (hb : b ∈ s.alerts.alerts)
    (same : a.number = b.number) : a = b := List.inj_on_of_nodup_map law.numbers ha hb same

/-- A source's alert is the only one of its origin. -/
theorem AlertListLaw.ofOrigin_eq (ha : a ∈ s.alerts.alerts) (other : a.origin ≠ .host) :
    s.alerts.ofOrigin a.origin = some a := by
  obtain ⟨b, found⟩ : ∃ b, s.alerts.ofOrigin a.origin = some b :=
    Option.isSome_iff_exists.mp (List.find?_isSome.mpr ⟨a, ha, by simp⟩)
  have same : b.origin = a.origin := by simpa using List.find?_some found
  rw [found, law.sources a ha b (List.mem_of_find?_eq_some found) same.symm other]

/-- The list without an alert's number is the list without the alert. -/
theorem AlertListLaw.without_eq (ha : a ∈ s.alerts.alerts) :
    s.alerts.without a.number = s.alerts.alerts.filter fun b => decide (b ≠ a) := by
  refine List.filter_congr fun b hb => decide_eq_decide.mpr ⟨fun differs same => differs ?_,
    fun differs same => differs (law.eq_of_number hb ha same)⟩
  rw [same]

/-- A refresh changes the one alert of its number. -/
theorem AlertListLaw.refresh_eq (ha : a ∈ s.alerts.alerts) :
    s.alerts.refresh a.number =
      { s.alerts with
        alerts := s.alerts.alerts.map fun b =>
          if b = a then { a with remaining := a.content.duration * 1000 } else b } := by
  have each : ∀ b ∈ s.alerts.alerts,
      (if b.number = a.number then { b with remaining := b.content.duration * 1000 } else b)
        = if b = a then { a with remaining := a.content.duration * 1000 } else b := by
    intro b hb
    by_cases same : b = a
    · rw [same, if_pos rfl, if_pos rfl]
    · rw [if_neg same, if_neg fun number => same (law.eq_of_number hb ha number)]
  rw [AlertUnit.refresh, List.map_congr_left each]

/-- A source's IN_FORCE alert is refreshed. -/
theorem AlertListLaw.sourceAdmission_inForce (ha : a ∈ s.alerts.alerts) (other : a.origin ≠ .host)
    (force : a.state = .inForce) :
    s.sourceAdmission a.origin c = s.withAlerts
      { s.alerts with
        alerts := s.alerts.alerts.map fun b =>
          if b = a then { a with remaining := a.content.duration * 1000 } else b } := by
  rw [State.sourceAdmission, law.ofOrigin_eq ha other, ← law.refresh_eq ha]
  exact if_pos (a.inForce_iff.mpr force)

/-- A source's ENDING alert leaves the list, and the source then has none in it. -/
theorem AlertListLaw.sourceAdmission_ending (ha : a ∈ s.alerts.alerts) (other : a.origin ≠ .host)
    (ending : a.state ≠ .inForce) :
    s.sourceAdmission a.origin c
      = (s.withAlerts
          (s.alerts.withAlerts (s.alerts.alerts.filter fun b => decide (b ≠ a)))).sourceAdmission
          a.origin c := by
  have new : ∀ b ∈ s.alerts.without a.number, b.origin ≠ a.origin := by
    intro b hb same
    rw [law.without_eq ha] at hb
    obtain ⟨hb, differs⟩ := List.mem_filter.mp hb
    exact of_decide_eq_true differs (law.sources a ha b hb same.symm other).symm
  rw [← law.without_eq ha,
    State.sourceAdmission_new (s := s.withAlerts (s.alerts.withAlerts (s.alerts.without a.number))) new,
    State.sourceAdmission, law.ofOrigin_eq ha other]
  exact if_neg (mt a.inForce_iff.mp ending)

end Sources

/-! ### The match of a cue filter (R161) -/

theorem Segment.satisfied_iff (g : Segment) (b : Octets) :
    g.satisfied b = true ↔ g.offset + g.pattern.length ≤ b.length ∧
      ∀ j, j < g.pattern.length →
        b.getD (g.offset + j) 0 &&& g.mask.getD j 0 = g.pattern.getD j 0 &&& g.mask.getD j 0 := by
  simp only [Segment.satisfied, Bool.and_eq_true, decide_eq_true_iff, List.all_eq_true, List.mem_range]

theorem CueConfig.matches_iff (c : CueConfig) (port : Fin 8) (stream : Fin 4) (b : Octets) :
    c.matches port stream b = true ↔ c.enabled = true ∧ c.port = port ∧
      (c.stream = none ∨ c.stream = some stream) ∧
      ∀ g ∈ c.segments, g.offset + g.pattern.length ≤ b.length ∧
        ∀ j, j < g.pattern.length →
          b.getD (g.offset + j) 0 &&& g.mask.getD j 0 = g.pattern.getD j 0 &&& g.mask.getD j 0 := by
  have streams : c.stream.all (fun k => decide (k = stream)) = true ↔
      c.stream = none ∨ c.stream = some stream := by
    cases c.stream <;> simp
  simp only [CueConfig.matches, Bool.and_eq_true, decide_eq_true_iff, streams, List.all_eq_true,
    Segment.satisfied_iff, and_assoc]

end Sys2Proof.Machine

open Sys2Proof Sys2Proof.Machine

/-- Settles O49: the content by the mirror's entry, the admission by the source's alert in the list, and
each filter by `CueConfig.matches_iff`. -/
theorem sourceRequestsAndCueMatches : Obligations.SourceRequestsAndCueMatches := by
  intro s
  refine ⟨fun origin source =>
      ⟨fun w written => State.sourceRequest_written written, fun m unusable => ?fallback⟩,
    fun origin c => ⟨fun new few below => ?room, fun new full below =>
        ⟨fun none => (State.sourceAdmission_new new).trans (State.admitFor_refused (.inr none)),
          fun u events made => ?made⟩,
      fun new exhausted => (State.sourceAdmission_new new).trans (State.admitFor_refused (.inl exhausted)),
      fun a ha law other own => ?held⟩,
    fun port stream field n f m same meaning => ⟨rfl, ?cue⟩⟩
  case fallback =>
    have entry : s.templates.mirror[source.slot].content = none ∧
        s.templates.mirror[source.slot].code = m := by
      rcases unusable with ⟨entry, rfl⟩ | ⟨entry, rfl⟩ <;> rw [entry] <;> exact ⟨rfl, rfl⟩
    obtain ⟨content, code⟩ := entry
    rw [State.sourceRequest_fallback content, code]
  case room =>
    obtain ⟨number, nonzero, free, admitted⟩ := State.admitFor_room (origin := origin) few.le below
      (AlertUnit.makeRoom_below few c.level)
    exact ⟨number, nonzero, free, (State.sourceAdmission_new new).trans admitted⟩
  case made =>
    obtain ⟨number, nonzero, free, admitted⟩ := State.admitFor_room (origin := origin) full.le below made
    exact ⟨number, nonzero, free, (State.sourceAdmission_new new).trans admitted⟩
  case held =>
    subst own
    exact ⟨law.sourceAdmission_inForce ha other, law.sourceAdmission_ending ha other⟩
  case cue =>
    subst same
    have decides := meaning.trans (s.cues[n].config.matches_iff port stream field).symm
    refine ⟨fun fails => if_neg (mt decides.mpr fails),
      fun matched => ⟨_, rfl, fun reports => ?_, fun raises => ?_⟩⟩
    · exact (if_pos (decides.mp matched)).trans (if_neg (Bool.eq_false_iff.mp reports))
    · exact (if_pos (decides.mp matched)).trans (if_pos raises)

end

section
/-! PROOFS. Trigger lines: raw changes, the filter timer's expiry, and what a line does at an edge or at its
first settling (R153 to R156, R165). -/

namespace Sys2Proof.Machine

/-! ### Edges (R152, R154) -/

theorem Edge.code_to (level : PinLevel) : (Edge.to level).code = if level = .high then 1 else 2 := by
  cases level <;> rfl

/-- The changes of the configured kind. -/
theorem EdgeSetting.counts_to_iff (e : EdgeSetting) (level : PinLevel) :
    e.counts (Edge.to level) = true ↔
      e = .both ∨ e = .rising ∧ level = .high ∨ e = .falling ∧ level = .low := by
  cases e <;> cases level <;> decide

/-- The active level of HELD mode. -/
theorem EdgeSetting.activeLevel_iff (e : EdgeSetting) (level : PinLevel) :
    some level = e.activeLevel ↔ e = .rising ∧ level = .high ∨ e = .falling ∧ level = .low := by
  cases e <;> cases level <;> decide

theorem EdgeSetting.ne_activeLevel {e : EdgeSetting} {level : PinLevel}
    (away : e = .rising ∧ level = .low ∨ e = .falling ∧ level = .high) :
    some level ≠ e.activeLevel := by
  rcases away with ⟨rfl, rfl⟩ | ⟨rfl, rfl⟩ <;> decide

/-- With an active level, a change is of the configured kind when it leads to that level. -/
theorem EdgeSetting.counts_to_iff_active {e : EdgeSetting} (single : e ≠ .both) (level : PinLevel) :
    e.counts (Edge.to level) = true ↔ some level = e.activeLevel := by
  rw [e.counts_to_iff, e.activeLevel_iff, or_iff_right single]

/-! ### Raw changes and settling, on the line (R153, R154) -/

section Line

variable {l : TriggerLine} {level old : PinLevel}

theorem TriggerLine.rawChange_same (same : level = l.raw) : l.rawChange level = l := if_pos same.symm

/-- A change back to the settled level stops the filter timer. -/
theorem TriggerLine.rawChange_back (change : level ≠ l.raw) (back : l.settled = some level) :
    l.rawChange level = { l with raw := level, timer := none } := by
  rw [TriggerLine.rawChange, if_neg change.symm, if_pos back]

/-- A change away from it, or with the settled level UNKNOWN, starts the timer afresh. -/
theorem TriggerLine.rawChange_away (change : level ≠ l.raw) (away : l.settled ≠ some level) :
    l.rawChange level = { l with raw := level, timer := some l.config.filterTime } := by
  rw [TriggerLine.rawChange, if_neg change.symm, if_neg away]

/-- Settling by an edge: the pending flag is set where the edge is of the configured kind. -/
theorem TriggerLine.settle_edge {counted : Bool} (settled : l.settled = some old)
    (kind : l.config.edge.counts (Edge.to l.raw) = counted) :
    l.settle =
      { l with settled := some l.raw, timer := none, pending := l.pending || counted } := by
  rw [TriggerLine.settle, settled, kind]
  rfl

/-- The first settling accepts no edge. -/
theorem TriggerLine.settle_first (unknown : l.settled = none) :
    l.settle = { l with settled := some l.raw, timer := none } := by
  rw [TriggerLine.settle, unknown, Option.isSome_none, Bool.false_and, Bool.or_false]

theorem TriggerLine.active_iff (l : TriggerLine) :
    l.active = true ↔ l.config.enabled = true ∧ l.config.mode = .held ∧ l.settled ≠ none ∧
      l.settled = l.config.edge.activeLevel := by
  simp only [TriggerLine.active, Bool.and_eq_true, decide_eq_true_iff, Option.isSome_iff_ne_none, and_assoc]

theorem TriggerLine.active_settled_iff (settled : l.settled = some level) :
    l.active = true ↔ l.config.enabled = true ∧ l.config.mode = .held ∧
      some level = l.config.edge.activeLevel := by
  rw [TriggerLine.active_iff, settled, ne_eq, eq_false (Option.some_ne_none level), not_false_eq_true,
    true_and]

end Line

/-! ### What a line does (R155, R156), by the line as it stands -/

section Acts

variable {s : State} {n : Fin 4} {l : TriggerLine} {edge : Edge} {mode : LineMode}
variable (line : s.lines[n] = l)

include line

theorem State.trigger_eq :
    s.trigger n edge mode
      = (s.raise .trigger [octet n.val, edge.code, mode.code]).sourceRequest (.trigger n)
        l.config.source := by
  subst line
  rfl

theorem State.acceptedEdge_disabled (off : l.config.enabled = false) : s.acceptedEdge n edge = s := by
  subst line
  simp only [State.acceptedEdge, off, Bool.not_false, if_true]

theorem State.acceptedEdge_pulse (on : l.config.enabled = true) (pulse : l.config.mode = .pulse) :
    s.acceptedEdge n edge = if l.config.edge.counts edge then s.trigger n edge .pulse else s := by
  subst line
  simp only [State.acceptedEdge, on, pulse, Bool.not_true, Bool.false_eq_true, if_false]

/-- At an edge of a HELD line: one of the configured kind leads to the active level, the other from it. -/
theorem State.acceptedEdge_held {level : PinLevel} (on : l.config.enabled = true)
    (held : l.config.mode = .held) (single : l.config.edge ≠ .both) (settled : l.settled = some level) :
    s.acceptedEdge n (Edge.to level) =
      if l.config.edge.counts (Edge.to level) then s.trigger n (Edge.to level) .held
      else (s.raiseTrigger n (Edge.to level) .held).releaseAlert (.trigger n) := by
  have active : l.active = l.config.edge.counts (Edge.to level) := by
    rw [Bool.eq_iff_iff, l.active_settled_iff settled, EdgeSetting.counts_to_iff_active single]
    exact ⟨fun ⟨_, _, leads⟩ => leads, fun leads => ⟨on, held, leads⟩⟩
  subst line
  simp only [State.acceptedEdge, on, held, active, Bool.not_true, Bool.false_eq_true, if_false]

/-- A line that stands at its active level without an edge. -/
theorem State.becomeActive_active {level : PinLevel} (settled : l.settled = some level)
    (active : l.config.enabled = true ∧ l.config.mode = .held ∧ some level = l.config.edge.activeLevel) :
    s.becomeActive n = s.trigger n (Edge.to level) .held := by
  have active := (l.active_settled_iff settled).mpr active
  subst line
  simp only [State.becomeActive, active, settled, if_true]

theorem State.becomeActive_inactive (inactive : ¬ l.active = true) : s.becomeActive n = s := by
  subst line
  exact if_neg inactive

end Acts

/-! ### The two events (R153, R165) -/

section Events

variable {s : State} {n : Fin 4}

/-- A raw change at a part with power, by what it makes of the line. -/
theorem exec_triggerRawChange (on : s.powered = true) {level : PinLevel} {l : TriggerLine}
    (change : s.lines[n].rawChange level = l) :
    exec (.triggerRawChange n level) s = .next (s.withLines (s.lines.set n l)).choose := by
  subst change
  exact (if_pos on).trans (event_on on)

/-- An expiry at 0 with an accepted edge. -/
theorem filterTimerExpiry_edge {old : PinLevel} (due : s.lines[n].timer = some 0)
    (settled : s.lines[n].settled = some old) :
    filterTimerExpiry n s
      = (s.withLines (s.lines.set n s.lines[n].settle)).acceptedEdge n (Edge.to s.lines[n].raw) := by
  simp only [filterTimerExpiry, (Timer.due_iff _).mpr due, settled, if_true, Option.isNone_some,
    Bool.false_eq_true, if_false]
  rfl

/-- An expiry at 0 while the settled level is UNKNOWN. -/
theorem filterTimerExpiry_first (due : s.lines[n].timer = some 0) (unknown : s.lines[n].settled = none) :
    filterTimerExpiry n s = (s.withLines (s.lines.set n s.lines[n].settle)).becomeActive n := by
  simp only [filterTimerExpiry, (Timer.due_iff _).mpr due, unknown, if_true, Option.isNone_none]
  rfl

theorem State.withLines_set_line (l : TriggerLine) : (s.withLines (s.lines.set n l)).lines[n] = l := by
  simp

end Events

end Sys2Proof.Machine

open Sys2Proof Sys2Proof.Machine

/-- Settles O48: a raw change by the cases of `TriggerLine.rawChange`, an expiry at 0 by the line that it
leaves, and what that line does by its mode. -/
theorem rawChangesSettleAndTrigger : Obligations.RawChangesSettleAndTrigger := by
  intro s n l on same
  subst same
  refine ⟨fun level => ⟨fun same => ?same, fun change back => ?back, fun change away => ?away⟩,
    fun early => ?early, fun edge u due code => ⟨fun old counted settled away kind left => ?edge,
      fun unknown left => ?first⟩⟩
  case same =>
    rw [exec_triggerRawChange on (TriggerLine.rawChange_same same)]
    exact congrArg (fun t => Host.Outcome.next (s.withLines t).choose) (Vector.set_getElem_self n.isLt)
  case back => exact exec_triggerRawChange on (TriggerLine.rawChange_back change back)
  case away => exact exec_triggerRawChange on (TriggerLine.rawChange_away change away)
  case early =>
    exact event_of_effect on
      (filterTimerExpiry_otherwise (Bool.eq_false_iff.mpr (mt (Timer.due_iff _).mp early)))
  case edge =>
    have counts : s.lines[n].config.edge.counts (Edge.to s.lines[n].raw) = counted :=
      Bool.eq_iff_iff.mpr ((EdgeSetting.counts_to_iff _ _).trans kind.symm)
    have effect := filterTimerExpiry_edge due settled
    rw [TriggerLine.settle_edge settled counts, ← left] at effect
    have line := left ▸ State.withLines_set_line _
    obtain rfl := code.trans (Edge.code_to _).symm
    refine ⟨fun quiet => ?_, fun enabled pulse hit => ?_, fun enabled held single hit => ?_,
      fun enabled held single miss => ?_⟩
    all_goals refine event_of_effect on (effect.trans ?_)
    · rcases quiet with off | ⟨pulse, miss⟩
      · exact State.acceptedEdge_disabled line off
      · cases enabled : s.lines[n].config.enabled with
        | false => exact State.acceptedEdge_disabled line enabled
        | true =>
          exact (State.acceptedEdge_pulse line enabled pulse).trans
            (if_neg (Bool.eq_false_iff.mp (counts.trans miss)))
    · rw [State.acceptedEdge_pulse line enabled pulse, State.trigger_eq line]
      exact if_pos (counts.trans hit)
    · rw [State.acceptedEdge_held line enabled held single rfl, State.trigger_eq line]
      exact if_pos (counts.trans hit)
    · rw [State.acceptedEdge_held line enabled held single rfl]
      exact if_neg (Bool.eq_false_iff.mp (counts.trans miss))
  case first =>
    have effect := filterTimerExpiry_first due unknown
    rw [TriggerLine.settle_first unknown, ← left] at effect
    have line := left ▸ State.withLines_set_line _
    obtain rfl := code.trans (Edge.code_to _).symm
    refine ⟨fun ⟨enabled, held, at_level⟩ => ?_, fun quiet => ?_⟩
    all_goals refine event_of_effect on (effect.trans ?_)
    · rw [State.becomeActive_active line rfl
        ⟨enabled, held, (EdgeSetting.activeLevel_iff _ _).mpr at_level⟩, State.trigger_eq line]
      rfl
    · refine State.becomeActive_inactive line fun active => ?_
      obtain ⟨enabled, held, at_level⟩ := (TriggerLine.active_settled_iff rfl).mp active
      rcases quiet with off | pulse | away
      · exact nomatch off.symm.trans enabled
      · exact nomatch pulse.symm.trans held
      · exact EdgeSetting.ne_activeLevel away at_level

end

section
/-! PROOFS. The configuration of trigger lines and cue filters: the bodies of TRIG_SET and CUE_SET read back,
and what the four requests answer (R154, R159, R160, R163). -/

namespace Sys2Proof.Machine

/-! ### A template slot with its fallback, read back (R152, R160) -/

/-- Slot, fallback level and fallback region mask as TRIG_SET and CUE_SET carry them. -/
def SourceContent.octets (c : SourceContent) : Octets :=
  [octet c.slot.val, octet c.level.val] ++ be16 c.regions.toNat

theorem SourceContent.octets_length (c : SourceContent) : c.octets.length = 4 := by
  simp [SourceContent.octets]

/-- The octets of a source within its ranges, between any others, read back as the source. -/
theorem sourceOperand_octets (a b : Octets) {c : SourceContent} (h : c.Valid) :
    sourceOperand (a ++ (c.octets ++ b)) a.length = some c := by
  have body : c.octets ++ b
      = octet c.slot.val :: octet c.level.val :: (be16 c.regions.toNat ++ b) := by
    simp [SourceContent.octets]
  have slot : field (a ++ (c.octets ++ b)) a.length = c.slot.val := by
    simp [body, field_behind, octet_fin]
  have level : field (a ++ (c.octets ++ b)) (a.length + 1) = c.level.val := by
    simp [body, field_behind, octet_fin]
  have regions : field16 (a ++ (c.octets ++ b)) (a.length + 2) = c.regions.toNat := by
    simp [body, field16_behind, field16_be16 c.regions.isLt]
  simp only [sourceOperand, slot, level, regions, toFin?_val, levelOperand_val h.level,
    regionsOperand_toNat h.regions, Option.bind_eq_bind, Option.bind_some]
  rfl

/-! ### TRIG_SET (R159) -/

theorem edgeOperand_code (e : EdgeSetting) : edgeOperand e.code.toNat = some e := by cases e <;> rfl

theorem modeOperand_code (m : LineMode) : modeOperand m.code.toNat = some m := by cases m <;> rfl

/-- The body of TRIG_SET for a line and a configuration. -/
def LineConfig.octets (c : LineConfig) (n : Fin 4) : Octets :=
  [octet n.val, flagOctet c.enabled, c.edge.code, c.mode.code] ++ (c.source.octets ++ [octet c.filterTime])

/-- A configuration within its ranges reads back from its body. -/
theorem lineOperand_octets (n : Fin 4) {c : LineConfig} (h : c.Valid) :
    lineOperand (c.octets n) = some (n, c) := by
  obtain ⟨least, greatest⟩ := h.time
  have line : toFin? 4 (field (c.octets n) 0) = some n := toFin?_field_octet n (by decide) _
  have enabled : flagOperand (field (c.octets n) 1) = some c.enabled := flagOperand_flagOctet _
  have edge : edgeOperand (field (c.octets n) 2) = some c.edge := edgeOperand_code _
  have mode : modeOperand (field (c.octets n) 3) = some c.mode := modeOperand_code _
  have source : sourceOperand (c.octets n) 4 = some c.source := sourceOperand_octets
    [octet n.val, flagOctet c.enabled, c.edge.code, c.mode.code] _ h.source
  have filterTime : field (c.octets n) 8 = c.filterTime := octet_toNat (by omega)
  have single : ¬(c.mode = .held ∧ c.edge = .both) := fun ⟨held, both⟩ => h.held held both
  simp only [lineOperand, line, enabled, edge, mode, source, filterTime, single,
    rangeOperand_of_mem ⟨least, greatest⟩, Option.bind_eq_bind, Option.bind_some, if_false]
  rfl

/-- TRIG_SET past its checks, by the state with the line configured. -/
theorem trigSet_done {s u : State} {n : Fin 4} {c : LineConfig} (h : c.Valid)
    (configured : u = s.withLines (s.lines.set n (s.lines[n].configure c))) :
    trigSet (c.octets n) s =
      (if s.lines[n].staysActive c then u else u.becomeActive n, .plain .done) := by
  subst configured
  rw [trigSet, lineOperand_octets n h]
  rfl

theorem TriggerLine.staysActive_iff (l : TriggerLine) (c : LineConfig) :
    l.staysActive c = true ↔ l.active = true ∧ l.config.edge.activeLevel = c.edge.activeLevel := by
  rw [TriggerLine.staysActive, Bool.and_eq_true, decide_eq_true_iff]

/-- The active level of a configuration in HELD mode, which has an edge of one kind. -/
theorem LineConfig.Valid.activeLevel {c : LineConfig} (h : c.Valid) (held : c.mode = .held) :
    c.edge.activeLevel = if c.edge = .rising then some .high else some .low := by
  have single := h.held held
  cases edge : c.edge with
  | both => exact absurd edge single
  | _ => rfl

/-! ### CUE_SET and CUE_READ (R160, R163) -/

/-- A cue filter's stream as CUE_SET carries it: 4 for ANY. -/
def cueStreamOctet : Option (Fin 4) → Octet
  | some k => octet k.val
  | none => 4

theorem cueStreamOperand_octet (x : Option (Fin 4)) :
    cueStreamOperand (cueStreamOctet x).toNat = some x := by
  cases x with
  | none => rfl
  | some k => revert k; decide

theorem actionOperand_octet (raises : Bool) :
    actionOperand (if raises then 2 else 1 : Octet).toNat = some raises := by cases raises <;> rfl

/-- The five octets of CUE_SET before the slot. -/
def CueConfig.headOctets (c : CueConfig) (n : Fin 4) : Octets :=
  [octet n.val, flagOctet c.enabled, octet c.port.val, cueStreamOctet c.stream, if c.raises then 2 else 1]

theorem CueConfig.octets_eq (c : CueConfig) (n : Fin 4) :
    c.octets n = c.headOctets n ++ (c.sourceOctets
      ++ ([octet c.segments.length] ++ padTo 72 (c.segments.flatMap Segment.octets))) := by
  rw [CueConfig.octets, List.append_assoc, List.append_assoc]
  rfl

theorem CueConfig.headOctets_length (c : CueConfig) (n : Fin 4) : (c.headOctets n).length = 5 := rfl

/-- R160: a segment that CUE_SET can give, as `CueConfig.Valid` has it of each. -/
def Segment.Valid (g : Segment) : Prop :=
  1 ≤ g.pattern.length ∧ g.pattern.length ≤ 8 ∧ g.mask.length = g.pattern.length ∧
    g.offset ≤ 63 ∧ g.offset + g.pattern.length ≤ 64

theorem Segment.octets_length (g : Segment) : g.octets.length = 18 := by simp [Segment.octets]

/-- The octets of a segment within its ranges, between any others, read back as the segment. -/
theorem segmentOperand_octets (a b : Octets) {g : Segment} (h : g.Valid) :
    segmentOperand (a ++ (g.octets ++ b)) a.length = some g := by
  obtain ⟨least, greatest, same, start, inside⟩ := h
  have body : g.octets ++ b
      = octet g.offset :: octet g.pattern.length :: (padTo 8 g.pattern ++ (padTo 8 g.mask ++ b)) := by
    simp [Segment.octets]
  have offset : field (a ++ (g.octets ++ b)) a.length = g.offset := by
    simp [body, field_behind, octet_toNat (show g.offset < 256 by omega)]
  have length : field (a ++ (g.octets ++ b)) (a.length + 1) = g.pattern.length := by
    simp [body, field_behind, octet_toNat (show g.pattern.length < 256 by omega)]
  have pattern : span (a ++ (g.octets ++ b)) (a.length + 2) g.pattern.length = g.pattern := by
    simp [body, span_behind, span_succ, span_padTo greatest]
  have mask : span (a ++ (g.octets ++ b)) (a.length + 10) g.pattern.length = g.mask := by
    simp [body, span_behind, span_succ, ← same, span_padTo (same.le.trans greatest)]
  simp only [segmentOperand, offset, length, pattern, mask, rangeOperand_of_mem ⟨Nat.zero_le _, start⟩,
    rangeOperand_of_mem ⟨least, greatest⟩, Nat.not_lt.mpr inside, Option.bind_eq_bind, Option.bind_some,
    if_false]
  rfl

/-- So do the octets of several, one behind the other. -/
theorem segmentsOperand_octets {l : List Segment} (h : ∀ g ∈ l, g.Valid) :
    ∀ a b : Octets,
      segmentsOperand (a ++ (l.flatMap Segment.octets ++ b)) a.length l.length = some l := by
  induction l with
  | nil => exact fun _ _ => rfl
  | cons g l ih =>
    intro a b
    obtain ⟨first, others⟩ := List.forall_mem_cons.mp h
    have head := segmentOperand_octets a (l.flatMap Segment.octets ++ b) first
    have tail := ih others (a ++ g.octets) b
    rw [List.length_append, g.octets_length, List.append_assoc] at tail
    rw [List.flatMap_cons, List.append_assoc, List.length_cons, segmentsOperand, head, tail]
    rfl

theorem padTo_of_le {n : Nat} {a : Octets} (h : a.length ≤ n) :
    padTo n a = a ++ List.replicate (n - a.length) 0 := by
  simp [padTo, List.take_append, List.take_of_length_le h]

theorem segments_octets_length (l : List Segment) :
    (l.flatMap Segment.octets).length = 18 * l.length := by
  simp [List.length_flatMap, Segment.octets_length, Nat.mul_comm]

theorem CueConfig.sourceOctets_length (c : CueConfig) : c.sourceOctets.length = 4 := by
  unfold CueConfig.sourceOctets
  split <;> simp

theorem CueConfig.octets_length (c : CueConfig) (n : Fin 4) : (c.octets n).length = 82 := by
  simp [CueConfig.octets, c.sourceOctets_length]

/-- A configuration within its ranges reads back from its body, under REPORT with the source held
(log 20). -/
theorem cueOperand_octets (n : Fin 4) {c : CueConfig} (h : c.Valid) (held : SourceContent) :
    cueOperand (c.octets n) held = some { c with source := if c.raises then c.source else held } := by
  obtain ⟨least, greatest⟩ := h.count
  have enabled : flagOperand (field (c.octets n) 1) = some c.enabled := flagOperand_flagOctet _
  have port : toFin? 8 (field (c.octets n) 2) = some c.port := toFin?_field_octet c.port (by decide) []
  have stream : cueStreamOperand (field (c.octets n) 3) = some c.stream := cueStreamOperand_octet _
  have raises : actionOperand (field (c.octets n) 4) = some c.raises := actionOperand_octet _
  have source (raising : c.raises = true) : sourceOperand (c.octets n) 5 = some c.source := by
    rw [c.octets_eq, CueConfig.sourceOctets, if_pos raising]
    exact sourceOperand_octets (c.headOctets n) _ (h.source raising)
  have front : (c.headOctets n ++ c.sourceOctets).length = 9 := by
    rw [List.length_append, c.sourceOctets_length, c.headOctets_length]
  have count : field (c.octets n) 9 = c.segments.length := by
    rw [c.octets_eq, ← List.append_assoc, field_behind front.le, front]
    exact octet_toNat (by omega)
  have segments : segmentsOperand (c.octets n) 10 c.segments.length = some c.segments := by
    have fits : (c.segments.flatMap Segment.octets).length ≤ 72 := by
      rw [segments_octets_length]
      omega
    have read := segmentsOperand_octets h.segments
      (c.headOctets n ++ c.sourceOctets ++ [octet c.segments.length])
      (List.replicate (72 - (c.segments.flatMap Segment.octets).length) 0)
    rw [← padTo_of_le fits, List.append_assoc, List.append_assoc, ← c.octets_eq,
      List.length_append, front] at read
    exact read
  simp only [cueOperand, enabled, port, stream, raises, count, segments,
    rangeOperand_of_mem ⟨least, greatest⟩, Option.bind_eq_bind, Option.bind_some]
  by_cases raising : c.raises = true
  · rw [if_pos raising, if_pos raising, source raising]
    rfl
  · rw [if_neg raising, if_neg raising]
    rfl

theorem cueSet_done (s : State) (n : Fin 4) {c : CueConfig} (h : c.Valid) :
    cueSet (c.octets n) s =
      (s.withCues (s.cues.set n
          { config := { c with source := if c.raises then c.source else s.cues[n].config.source }
            hits := 0 }),
        .plain .done) := by
  have filter : cueFilterOperand (c.octets n) = some n := toFin?_field_octet n (by decide) _
  simp only [cueSet, filter, cueOperand_octets n h]

theorem cueRead_done (s : State) (n : Fin 4) :
    cueRead [octet n.val] s =
      (s.withCues (s.cues.set n { s.cues[n] with hits := 0 }),
        .done (s.cues[n].config.octets n ++ be16 s.cues[n].hits.toNat)) := by
  simp only [cueRead, toFin?_field_octet n (by decide)]
  rfl

end Sys2Proof.Machine

open Sys2Proof Sys2Proof.Machine

/-- Settles O47: each body by what it reads back as, and the line that TRIG_SET leaves by whether it has
become active. -/
theorem triggerAndCueConfiguration : Obligations.TriggerAndCueConfiguration := by
  intro s r rest n h
  refine ⟨fun c u kind valid body left => ?trigSet, fun kind body => ?trigRead,
    fun c kind valid body => ?cueSet, fun kind body => ?cueRead⟩
  case trigSet =>
    have sets := trigSet_done valid left
    rw [State.taken_lines] at sets
    have line : u.lines[n] = s.lines[n].configure c := left ▸ State.withLines_set_line _
    refine ⟨fun quiet => ?_, fun enabled held at_level new => ?_⟩
    all_goals refine exec_request_of h kind body rfl rfl (sets.trans (congrArg (Prod.mk · _) ?_))
    · by_cases stays : s.lines[n].staysActive c = true
      · exact if_pos stays
      · refine (if_neg stays).trans (State.becomeActive_inactive line fun active => ?_)
        obtain ⟨enabled, held, known, at_level⟩ := (TriggerLine.active_iff _).mp active
        rcases quiet with off | pulse | unknown | away | ⟨was, edge⟩
        · exact nomatch off.symm.trans enabled
        · exact nomatch pulse.symm.trans held
        · exact known unknown
        · exact away (at_level.trans (valid.activeLevel held))
        · exact stays ((TriggerLine.staysActive_iff _ _).mpr ⟨was, congrArg _ edge⟩)
    · have moves : ¬ s.lines[n].staysActive c = true := fun stays => by
        obtain ⟨was, level⟩ := (TriggerLine.staysActive_iff _ _).mp stays
        exact new.elim (fun inactive => nomatch inactive.symm.trans was) (fun differs => differs level)
      obtain ⟨level, settled, code⟩ : ∃ level, s.lines[n].settled = some level ∧
          (Edge.to level).code = if c.edge = .rising then 1 else 2 := by
        by_cases rising : c.edge = .rising
        · exact ⟨.high, at_level.trans (if_pos rising), (if_pos rising).symm⟩
        · exact ⟨.low, at_level.trans (if_neg rising), (if_neg rising).symm⟩
      have leads := settled.symm.trans (at_level.trans (valid.activeLevel held).symm)
      rw [if_neg moves, State.becomeActive_active line settled ⟨enabled, held, leads⟩,
        State.trigger_eq line, code]
      rfl
  case trigRead => exact exec_request_of h kind body rfl rfl rfl
  case cueSet =>
    have fits : bodyFits 0x6A (c.octets n).length = true := by
      rw [c.octets_length]
      rfl
    exact exec_request_of h kind body rfl fits (cueSet_done (s.taken rest) n valid)
  case cueRead => exact exec_request_of h kind body rfl rfl (cueRead_done (s.taken rest) n)

end

section
/-! PROOFS. The commands that leave the alert unit alone, and what the others leave in it. -/

namespace Sys2Proof.Machine

section Kept

variable (s : State) (b : Octets)

/-! ### Services and plans, the object store, carousels -/

@[simp] theorem State.removeEntry_alerts (i : Fin 32) (k : ObjectKind) (e : CarouselEntry) :
    (s.removeEntry i k e).alerts = s.alerts := rfl

@[simp] theorem State.removeId_alerts (id : Nat) : (s.removeId id).alerts = s.alerts := by
  unfold State.removeId
  split <;> rfl

@[simp] theorem State.clearLane_alerts (i : Fin 32) (k : ObjectKind) :
    (s.clearLane i k).alerts = s.alerts :=
  foldl_field State.alerts (fun u e => u.removeEntry_alerts i k e) _ s

@[simp] theorem State.carouselCell_alerts (i : Fin 32) (first : Bool) :
    (s.carouselCell i first).1.alerts = s.alerts := by
  unfold State.carouselCell
  split
  · rfl
  · exact State.raiseAll_alerts _ _

theorem svcSet_alerts : (svcSet b s).1.alerts = s.alerts := by
  unfold svcSet
  repeat' split
  all_goals rfl

/-- A drop forgets the taker record and the cursor of its service (R183). -/
theorem State.dropService_alerts (i : Fin 32) : (s.dropService i).alerts = s.alerts.forget i := by
  simp [State.dropService]

theorem planEdit_alerts : (planEdit b s).1.alerts = s.alerts := by
  unfold planEdit
  dsimp only
  repeat' split
  all_goals rfl

theorem planCopy_alerts : (planCopy b s).1.alerts = s.alerts := by
  unfold planCopy
  split <;> rfl

theorem planCommit_alerts : (planCommit b s).1.alerts = s.alerts := by
  unfold planCommit
  repeat' split
  all_goals rfl

theorem planWithdraw_alerts : (planWithdraw b s).1.alerts = s.alerts := by
  unfold planWithdraw
  repeat' split
  all_goals rfl

theorem objOpen_alerts : (objOpen b s).1.alerts = s.alerts := by
  unfold objOpen
  dsimp only
  repeat' split
  all_goals rfl

theorem objLoad_alerts : (objLoad b s).1.alerts = s.alerts := by
  unfold objLoad
  dsimp only
  repeat' split
  all_goals rfl

theorem objClose_alerts : (objClose b s).1.alerts = s.alerts := by
  unfold objClose
  repeat' split
  all_goals rfl

theorem objDrop_alerts : (objDrop b s).1.alerts = s.alerts := by
  have removals (ids : List Nat) : (ids.foldl State.removeId s).alerts = s.alerts :=
    foldl_field State.alerts State.removeId_alerts ids s
  unfold objDrop
  dsimp only
  repeat' split
  all_goals simp [removals]

theorem objRead_alerts : (objRead b s).1.alerts = s.alerts := by
  unfold objRead
  dsimp only
  repeat' split
  all_goals simp

theorem carAdd_alerts : (carAdd b s).1.alerts = s.alerts := by
  unfold carAdd
  repeat' split
  all_goals rfl

theorem carRemove_alerts : (carRemove b s).1.alerts = s.alerts := by
  unfold carRemove
  split <;> rfl

theorem carClear_alerts : (carClear b s).1.alerts = s.alerts := by
  unfold carClear
  repeat' split
  all_goals simp

theorem carResume_alerts : (carResume b s).1.alerts = s.alerts := by
  unfold carResume
  repeat' split
  all_goals rfl

/-! ### Templates and cue filters -/

theorem tplErase_alerts : (tplErase b s).1.alerts = s.alerts := by
  unfold tplErase
  repeat' split
  all_goals rfl

theorem tplWrite_alerts : (tplWrite b s).1.alerts = s.alerts := by
  unfold tplWrite
  repeat' split
  all_goals rfl

theorem tplLock_alerts : (tplLock b s).1.alerts = s.alerts := by
  unfold tplLock
  dsimp only
  repeat' split
  all_goals rfl

theorem tplUnlock_alerts : (tplUnlock b s).1.alerts = s.alerts := by
  unfold tplUnlock
  repeat' split
  all_goals rfl

theorem eraseEnd_alerts : (eraseEnd s).alerts = s.alerts := by
  unfold eraseEnd
  split <;> rfl

theorem writeEnd_alerts : (writeEnd s).alerts = s.alerts := by
  unfold writeEnd
  split <;> rfl

theorem cueSet_alerts : (cueSet b s).1.alerts = s.alerts := by
  unfold cueSet
  repeat' split
  all_goals rfl

theorem cueRead_alerts : (cueRead b s).1.alerts = s.alerts := by
  unfold cueRead
  split <;> rfl

/-! ### Contributor ports -/

@[simp] theorem State.portEvent_alerts (n : Fin 8) (work : Port → Port × Events) :
    (s.portEvent n work).alerts = s.alerts := State.raiseAll_alerts _ _

theorem portSet_alerts : (portSet b s).1.alerts = s.alerts := by
  unfold portSet
  split <;> rfl

theorem portRenegotiate_alerts : (portRenegotiate b s).1.alerts = s.alerts := by
  unfold portRenegotiate
  repeat' split
  all_goals rfl

theorem portRead_alerts : (portRead b s).1.alerts = s.alerts := by
  unfold portRead
  split <;> rfl

theorem offerWordPeriod_alerts (n : Fin 8) : (offerWordPeriod n s).alerts = s.alerts := by
  unfold offerWordPeriod
  split <;> simp

theorem listenTimerExpiry_alerts (n : Fin 8) : (listenTimerExpiry n s).alerts = s.alerts := by
  unfold listenTimerExpiry
  split <;> simp

theorem linkTimerExpiry_alerts (n : Fin 8) : (linkTimerExpiry n s).alerts = s.alerts := by
  unfold linkTimerExpiry
  split <;> simp

@[simp] theorem State.takeStream_alerts (x : Stream) : (s.takeStream x).1.alerts = s.alerts := by
  unfold State.takeStream
  dsimp only
  split <;> rfl

/-! ### The assembler and the output link -/

@[simp] theorem State.putBack_alerts (a : Assembly) : (s.putBack a).alerts = s.alerts :=
  State.raiseAll_alerts _ _

/-- A pull starts a frame at the alert unit, or leaves the alert unit alone. -/
theorem framePull_alerts : (framePull s).alerts = s.alerts ∨ (framePull s).alerts = s.startAlerts := by
  unfold framePull
  split
  · exact .inl rfl
  · exact .inr s.startFrame_alerts
  · exact .inl rfl
  · unfold State.answerPull
    split
    · exact .inr s.startFrame_alerts
    · exact .inr s.startFrame_alerts
    · split <;> exact .inl rfl

theorem streamTake_alerts : (streamTake s).alerts = s.alerts := by
  unfold streamTake
  dsimp only
  repeat' split
  all_goals simp

theorem cellRequest_alerts : (cellRequest s).alerts = s.alerts := by
  unfold cellRequest
  dsimp only
  repeat' split
  all_goals simp

/-- An alert text cell moves a cursor, and nothing else of the alert unit (R179, R180). -/
theorem alertCellRequest_alerts :
    ∃ cursors, (alertCellRequest s).alerts = { s.alerts with cursors := cursors } := by
  unfold alertCellRequest
  dsimp only
  repeat' split
  · exact ⟨_, rfl⟩
  · exact ⟨_, rfl⟩
  · exact ⟨_, rfl⟩
  · exact ⟨_, State.putBack_alerts _ _⟩

theorem frameAssemblyComplete_alerts : (frameAssemblyComplete s).alerts = s.alerts := by
  unfold frameAssemblyComplete
  repeat' split
  all_goals simp [State.setWork]

theorem stallTimerExpiry_alerts : (stallTimerExpiry s).alerts = s.alerts := by
  unfold stallTimerExpiry
  split <;> rfl

/-! ### The control unit -/

theorem unknownKind_alerts : (unknownKind s).alerts = s.alerts := by
  unfold unknownKind
  repeat' split
  all_goals rfl

theorem startingEnd_alerts : (startingEnd s).alerts = s.alerts := by
  unfold startingEnd
  repeat' split
  all_goals rfl

theorem reportSet_alerts : (reportSet b s).1.alerts = s.alerts := by
  unfold reportSet
  split <;> rfl

end Kept

end Sys2Proof.Machine

end

section
/-! PROOFS. The laws of the alert list and of ALERT_ACTIVE, and that every step keeps them
(R166 to R168). -/

namespace Sys2Proof.Machine

/-! ### The law of the list, alert by alert -/

/-- What tells an alert from the others for as long as it is in the list (R166, R167). -/
def Alert.identity (a : Alert) : Octet × Stamp × Origin := (a.number, a.stamp, a.origin)

/-- What the law asks of two alerts of the list, the first ahead of the second. -/
structure Alert.Ahead (a b : Alert) : Prop where
  number : a.number ≠ b.number
  stamp : a.stamp < b.stamp
  source : a.origin = b.origin → a.origin = .host

theorem Alert.Ahead.of_identity {a b c d : Alert} (h : a.Ahead b) (ha : c.identity = a.identity)
    (hb : d.identity = b.identity) : c.Ahead d := by
  simp only [Alert.identity, Prod.mk.injEq] at ha hb
  obtain ⟨number, stamp, origin⟩ := ha
  obtain ⟨number', stamp', origin'⟩ := hb
  exact ⟨by rw [number, number']; exact h.number, by rw [stamp, stamp']; exact h.stamp,
    by rw [origin, origin']; exact h.source⟩

/-- The law of the alert list, for a list and the admission counter. -/
structure Listed (l : List Alert) (counter : Stamp) : Prop where
  room : l.length ≤ 8
  ahead : l.Pairwise Alert.Ahead
  numbered : ∀ a ∈ l, a.number ≠ 0
  reached : ∀ a ∈ l, a.stamp ≤ counter

/-- Two alerts of a lawful list from one source are one alert. -/
theorem eq_of_origin_of_ahead {l : List Alert} (ahead : l.Pairwise Alert.Ahead) :
    ∀ a ∈ l, ∀ b ∈ l, a.origin = b.origin → a.origin ≠ .host → a = b := by
  intro a ha b hb
  refine List.Pairwise.forall_of_forall_of_flip
    (R := fun a b : Alert => a.origin = b.origin → a.origin ≠ .host → a = b) (fun _ _ _ _ => rfl)
    (ahead.imp fun h same other => absurd (h.source same) other)
    (ahead.imp fun h same other => absurd (same.trans (h.source same.symm)) other) ha hb

theorem alertListLaw_iff (s : State) :
    AlertListLaw s ↔ Listed s.alerts.alerts s.alerts.counter := by
  constructor
  · intro law
    refine ⟨law.room, ?_, law.numbered, law.reached⟩
    have numbers := List.pairwise_map.mp law.numbers
    have stamps := List.pairwise_map.mp law.order
    refine (numbers.and stamps).imp_of_mem fun {a b} ha hb ⟨number, stamp⟩ => ⟨number, stamp, ?_⟩
    intro same
    by_contra other
    exact number (congrArg _ (law.sources a ha b hb same other))
  · intro law
    exact ⟨law.room, List.pairwise_map.mpr (law.ahead.imp fun h => h.number), law.numbered,
      List.pairwise_map.mpr (law.ahead.imp fun h => h.stamp), law.reached, eq_of_origin_of_ahead law.ahead⟩

section Lists

variable {l : List Alert} {counter : Stamp}

/-- A list stays lawful when alerts change without changing what tells them apart, or leave it. -/
theorem Listed.filterMap (h : Listed l counter) {f : Alert → Option Alert}
    (same : ∀ a b, f a = some b → b.identity = a.identity) : Listed (l.filterMap f) counter where
  room := (List.length_filterMap_le f l).trans h.room
  ahead := h.ahead.filterMap f fun a b hab c hc d hd => hab.of_identity (same a c hc) (same b d hd)
  numbered b hb := by
    obtain ⟨a, ha, made⟩ := List.mem_filterMap.mp hb
    rw [show b.number = a.number from congrArg Prod.fst (same a b made)]
    exact h.numbered a ha
  reached b hb := by
    obtain ⟨a, ha, made⟩ := List.mem_filterMap.mp hb
    rw [show b.stamp = a.stamp from congrArg (·.2.1) (same a b made)]
    exact h.reached a ha

theorem Listed.map (h : Listed l counter) {f : Alert → Alert}
    (same : ∀ a, (f a).identity = a.identity) : Listed (l.map f) counter := by
  rw [← List.filterMap_eq_map]
  refine h.filterMap fun a b made => ?_
  cases made
  exact same a

theorem Listed.filter (h : Listed l counter) (p : Alert → Bool) : Listed (l.filter p) counter := by
  rw [← List.filterMap_eq_filter]
  refine h.filterMap fun a b made => ?_
  rw [(Option.guard_eq_some_iff.mp made).1]

/-- A new alert behind the others, under a free number and the next stamp, from the host or from a source
that has none in the list (R167, R170). -/
theorem Listed.concat (h : Listed l counter) (room : l.length < 8)
    (below : counter ≠ BitVec.allOnes 32) {a : Alert} (stamp : a.stamp = counter + 1)
    (nonzero : a.number ≠ 0) (free : ∀ b ∈ l, b.number ≠ a.number)
    (new : ∀ b ∈ l, b.origin = a.origin → b.origin = .host) : Listed (l ++ [a]) (counter + 1) := by
  have rises : counter < counter + 1 := by
    have short : counter.toNat ≠ 2 ^ 32 - 1 := fun top =>
      below (BitVec.eq_of_toNat_eq (top.trans BitVec.toNat_allOnes.symm))
    bv_omega
  have last : ∀ b ∈ l, b.Ahead a := fun b hb =>
    ⟨free b hb, stamp ▸ Nat.lt_of_le_of_lt (h.reached b hb) rises, new b hb⟩
  refine ⟨by simpa using room, List.pairwise_append.mpr ⟨h.ahead, List.pairwise_singleton _ _, ?_⟩,
    ?_, ?_⟩
  · intro b hb c hc
    obtain rfl := List.mem_singleton.mp hc
    exact last b hb
  · intro b hb
    rcases List.mem_append.mp hb with hb | hb
    · exact h.numbered b hb
    · obtain rfl := List.mem_singleton.mp hb
      exact nonzero
  · intro b hb
    rcases List.mem_append.mp hb with hb | hb
    · exact BitVec.le_of_lt (Nat.lt_of_le_of_lt (h.reached b hb) rises)
    · obtain rfl := List.mem_singleton.mp hb
      exact stamp ▸ BitVec.le_refl _

end Lists

/-! ### Both laws from one alert unit to another -/

/-- From one alert unit to the other the laws of ALERT_ACTIVE and of the list are kept. -/
structure AlertUnit.KeepsLaws (u v : AlertUnit) : Prop where
  active : u.active = u.alerts.any Alert.inForce → v.active = v.alerts.any Alert.inForce
  listed : Listed u.alerts u.counter → Listed v.alerts v.counter

section Keeps

variable {u v w : AlertUnit}

theorem AlertUnit.KeepsLaws.refl (u : AlertUnit) : u.KeepsLaws u := ⟨id, id⟩

theorem AlertUnit.KeepsLaws.of_eq (h : v = u) : u.KeepsLaws v := h ▸ .refl u

/-- What is kept from a unit is kept from the same unit however it is written. -/
theorem AlertUnit.KeepsLaws.of_start (h : u.KeepsLaws v) (same : u = w) : w.KeepsLaws v := same ▸ h

theorem AlertUnit.KeepsLaws.trans (h : u.KeepsLaws v) (k : v.KeepsLaws w) : u.KeepsLaws w :=
  ⟨k.active ∘ h.active, k.listed ∘ h.listed⟩

theorem AlertUnit.KeepsLaws.foldl {α : Type} {f : State → α → State}
    (work : ∀ (s : State) (x : α), s.alerts.KeepsLaws (f s x).alerts) (l : List α) (s : State) :
    s.alerts.KeepsLaws (l.foldl f s).alerts := by
  induction l generalizing s with
  | nil => exact .refl _
  | cons x rest ih => exact (work s x).trans (ih (f s x))

theorem AlertUnit.initial_keepsLaws (u : AlertUnit) : u.KeepsLaws .initial :=
  ⟨fun _ => rfl, fun _ => ⟨Nat.zero_le _, .nil, nofun, nofun⟩⟩

/-- ALERT_ACTIVE follows every change of the list (R168). -/
theorem AlertUnit.withAlerts_keepsLaws {l : List Alert}
    (h : Listed u.alerts u.counter → Listed l u.counter) : u.KeepsLaws (u.withAlerts l) :=
  ⟨fun _ => rfl, h⟩

theorem AlertUnit.without_keepsLaws (u : AlertUnit) (n : Octet) :
    u.KeepsLaws (u.withAlerts (u.without n)) := withAlerts_keepsLaws fun h => h.filter _

theorem AlertUnit.ending_keepsLaws (u : AlertUnit) (n : Octet) (reason : EndReason) :
    u.KeepsLaws (u.ending n reason) :=
  withAlerts_keepsLaws fun h => h.map fun a => by split <;> rfl

theorem Alert.age_identity {a b : Alert} (h : a.age = some b) : b.identity = a.identity := by
  unfold Alert.age at h
  split at h <;> cases h <;> rfl

/-- A frame assembly start ages the list, and writes no more of what the laws look at (R174 to R176). -/
theorem AlertUnit.start_keepsLaws (u : AlertUnit) (view : ServiceTable) (onAir : Fin 32 → Bool) :
    u.KeepsLaws (u.start view onAir).1 :=
  .trans (v := u.age) (withAlerts_keepsLaws fun h => h.filterMap fun _ _ => Alert.age_identity) ⟨id, id⟩

/-- Alerts that change neither what tells them apart nor their states. -/
theorem AlertUnit.map_keepsLaws (u : AlertUnit) {f : Alert → Alert}
    (same : ∀ a, (f a).identity = a.identity) (state : ∀ a, (f a).state = a.state) :
    u.KeepsLaws { u with alerts := u.alerts.map f } where
  active h := by
    rw [List.any_map, h]
    exact congrArg u.alerts.any (funext fun a => by simp [Alert.inForce, state])
  listed h := h.map same

theorem AlertUnit.refresh_keepsLaws (u : AlertUnit) (n : Octet) : u.KeepsLaws (u.refresh n) :=
  u.map_keepsLaws (fun a => by split <;> rfl) fun a => by split <;> rfl

theorem AlertUnit.tick_keepsLaws (u : AlertUnit) : u.KeepsLaws u.tick :=
  u.map_keepsLaws (fun a => by unfold Alert.tick; split <;> rfl)
    fun a => by unfold Alert.tick; split <;> rfl

/-! ### Admission (R167, R170, R171) -/

/-- Room is made by an alert that leaves the list, if at all. -/
theorem AlertUnit.makeRoom_keepsLaws {level : Fin 8} {events : Events}
    (h : u.makeRoom level = some (v, events)) : u.KeepsLaws v := by
  obtain ⟨_, rfl, _⟩ | ⟨a, _, rfl⟩ := AlertUnit.makeRoom_cases h
  · exact .refl _
  · exact u.without_keepsLaws a.number

theorem AlertUnit.makeRoom_subset {level : Fin 8} {events : Events}
    (h : u.makeRoom level = some (v, events)) : v.alerts ⊆ u.alerts := by
  obtain ⟨_, rfl, _⟩ | ⟨a, _, rfl⟩ := AlertUnit.makeRoom_cases h
  · exact List.Subset.refl _
  · exact List.filter_subset_self _

/-- Everything an admission can leave: the unit as it was, or a new alert where room is made. -/
theorem AlertUnit.enlist_cases (u : AlertUnit) (origin : Origin) (c : AlertContent) :
    (u.enlist origin c).unit = u ∨ ∃ v events, u.counter ≠ BitVec.allOnes 32 ∧
      u.makeRoom c.level = some (v, events) ∧ (u.enlist origin c).unit = (v.enter origin c).unit := by
  by_cases full : u.counter = BitVec.allOnes 32
  · rw [AlertUnit.enlist_refused (.inl full)]
    exact .inl rfl
  · cases room : u.makeRoom c.level with
    | none =>
      rw [AlertUnit.enlist_refused (.inr room)]
      exact .inl rfl
    | some made =>
      rw [AlertUnit.enlist_room full room]
      exact .inr ⟨made.1, made.2, full, rfl, rfl⟩

/-- An admission for the host, or for a source that has no alert in the list left. -/
theorem AlertUnit.KeepsLaws.enlist (h : u.KeepsLaws v) {origin : Origin}
    (new : Listed u.alerts u.counter → ∀ a ∈ v.alerts, a.origin = origin → a.origin = .host)
    (c : AlertContent) : u.KeepsLaws (v.enlist origin c).unit := by
  obtain same | ⟨w, events, below, room, same⟩ := v.enlist_cases origin c <;> rw [same]
  · exact h
  · refine ⟨fun _ => ?_, fun law => ?_⟩
    · rw [AlertUnit.enter_unit]
      simp [Alert.inForce]
    · have few := AlertUnit.makeRoom_length room (h.listed law).room
      have listed := (AlertUnit.makeRoom_keepsLaws room).listed (h.listed law)
      rw [← AlertUnit.makeRoom_counter room] at below
      exact listed.concat few below rfl w.newNumber_ne_zero (AlertUnit.newNumber_free (by omega))
        fun a ha => new law a (AlertUnit.makeRoom_subset room ha)

end Keeps

/-! ### The commands that reach the alert unit -/

section Commands

variable (s : State) (b : Octets)

theorem State.admitFor_alerts (origin : Origin) (c : AlertContent) :
    (s.admitFor origin c).alerts = (s.alerts.enlist origin c).unit := by
  by_cases full : s.alerts.counter = BitVec.allOnes 32
  · rw [State.admitFor_refused (.inl full), AlertUnit.enlist_refused (.inl full)]
    rfl
  · cases room : s.alerts.makeRoom c.level with
    | none =>
      rw [State.admitFor_refused (.inr room), AlertUnit.enlist_refused (.inr room)]
      rfl
    | some made =>
      rw [State.admitFor, AlertUnit.enlist_room full room]
      exact State.raiseAll_alerts _ _

/-- A source's request: a refresh, or an admission when the source has no alert in the list, its ENDING
alert taken out before (R158). -/
theorem State.sourceAdmission_keepsLaws (origin : Origin) (c : AlertContent) :
    s.alerts.KeepsLaws (s.sourceAdmission origin c).alerts := by
  unfold State.sourceAdmission
  cases held : s.alerts.ofOrigin origin with
  | none =>
    dsimp only
    rw [State.admitFor_alerts]
    refine (AlertUnit.KeepsLaws.refl s.alerts).enlist (fun _ a ha same => ?_) c
    exact absurd same (by simpa using List.find?_eq_none.mp held a ha)
  | some a =>
    have ha : a ∈ s.alerts.alerts := List.mem_of_find?_eq_some held
    have own : a.origin = origin := by simpa using List.find?_some held
    dsimp only
    split
    · exact s.alerts.refresh_keepsLaws a.number
    · rw [State.admitFor_alerts]
      refine (s.alerts.without_keepsLaws a.number).enlist (fun law b hb same => ?_) c
      obtain ⟨hb, differs⟩ := List.mem_filter.mp hb
      by_contra other
      obtain rfl := eq_of_origin_of_ahead law.ahead b hb a ha (same.trans own.symm) other
      exact of_decide_eq_true differs rfl

theorem State.sourceRequest_keepsLaws (origin : Origin) (source : SourceContent) :
    s.alerts.KeepsLaws (s.sourceRequest origin source).alerts := by
  have built := (s.raiseAll (buildContent s.templates.mirror origin source).2).sourceAdmission_keepsLaws
    origin (buildContent s.templates.mirror origin source).1
  rwa [State.raiseAll_alerts] at built

theorem State.endAlert_keepsLaws (a : Alert) (reason : EndReason) :
    s.alerts.KeepsLaws (s.endAlert a reason).alerts := s.alerts.ending_keepsLaws a.number reason

theorem State.releaseAlert_keepsLaws (origin : Origin) :
    s.alerts.KeepsLaws (s.releaseAlert origin).alerts := by
  unfold State.releaseAlert
  repeat' split
  · exact .refl _
  · exact s.endAlert_keepsLaws _ _
  · exact .refl _

theorem alertRaise_keepsLaws : s.alerts.KeepsLaws (alertRaise b s).1.alerts := by
  unfold alertRaise
  split
  · exact .refl _
  · dsimp only
    split
    · exact .refl _
    · rw [State.raiseAll_alerts]
      exact (AlertUnit.KeepsLaws.refl _).enlist (fun _ _ _ => id) _

theorem alertClear_keepsLaws : s.alerts.KeepsLaws (alertClear b s).1.alerts := by
  unfold alertClear
  repeat' split
  · exact .refl _
  · exact .refl _
  · exact s.endAlert_keepsLaws _ _
  · exact .refl _

theorem alertTimerExpiry_keepsLaws (n : Octet) :
    s.alerts.KeepsLaws (alertTimerExpiry n s).alerts := by
  unfold alertTimerExpiry
  repeat' split
  · exact .refl _
  · exact s.endAlert_keepsLaws _ _
  · exact .refl _

/-! ### Trigger lines and cue filters (R155, R156, R162) -/

theorem State.trigger_keepsLaws (n : Fin 4) (edge : Edge) (mode : LineMode) :
    s.alerts.KeepsLaws (s.trigger n edge mode).alerts :=
  (s.raiseTrigger n edge mode).sourceRequest_keepsLaws _ _

theorem State.acceptedEdge_keepsLaws (n : Fin 4) (edge : Edge) :
    s.alerts.KeepsLaws (s.acceptedEdge n edge).alerts := by
  unfold State.acceptedEdge
  dsimp only
  repeat' split
  · exact .refl _
  · exact s.trigger_keepsLaws n edge .pulse
  · exact .refl _
  · exact s.trigger_keepsLaws n edge .held
  · exact (s.raiseTrigger n edge .held).releaseAlert_keepsLaws _

theorem State.becomeActive_keepsLaws (n : Fin 4) : s.alerts.KeepsLaws (s.becomeActive n).alerts := by
  unfold State.becomeActive
  repeat' split
  · exact s.trigger_keepsLaws n _ .held
  · exact .refl _
  · exact .refl _

theorem filterTimerExpiry_keepsLaws (n : Fin 4) :
    s.alerts.KeepsLaws (filterTimerExpiry n s).alerts := by
  unfold filterTimerExpiry
  dsimp only
  repeat' split
  · exact (State.becomeActive_keepsLaws _ n).of_start rfl
  · exact (State.acceptedEdge_keepsLaws _ n _).of_start rfl
  · exact .refl _

theorem trigSet_keepsLaws : s.alerts.KeepsLaws (trigSet b s).1.alerts := by
  unfold trigSet
  split
  · exact .refl _
  · dsimp only
    split
    · exact .refl _
    · exact (State.becomeActive_keepsLaws _ _).of_start rfl

theorem State.examine_keepsLaws (port : Fin 8) (stream n : Fin 4) :
    s.alerts.KeepsLaws (s.examine port stream b n).alerts := by
  unfold State.examine
  dsimp only
  repeat' split
  · exact (State.sourceRequest_keepsLaws _ _ _).of_start rfl
  · exact .refl _
  · exact .refl _

theorem State.handOn_keepsLaws (port : Fin 8) (stream : Fin 4) :
    s.alerts.KeepsLaws (s.handOn port stream b).alerts :=
  .foldl (fun u n => u.examine_keepsLaws b port stream n) _ s

theorem State.acceptFrame_keepsLaws (n : Fin 8) (k : Fin 4) (f : ContributionFrame) :
    s.alerts.KeepsLaws (s.acceptFrame n k f).alerts := by
  unfold State.acceptFrame
  exact (State.handOn_keepsLaws _ f.ancillary n k).of_start (s.portEvent_alerts n _)

theorem State.takeItem_keepsLaws (n : Fin 8) (i : LineItem) :
    s.alerts.KeepsLaws (s.takeItem n i).alerts := by
  cases i with
  | word w => exact .refl _
  | failedFrame => exact .refl _
  | frame f =>
    unfold State.takeItem State.takeFrame
    dsimp only
    repeat' split
    · exact (State.acceptFrame_keepsLaws _ n _ f).of_start rfl
    · exact .refl _
    · exact .refl _

theorem lineOctets_keepsLaws (n : Fin 8) : s.alerts.KeepsLaws (lineOctets n b s).alerts := by
  unfold lineOctets
  dsimp only
  split
  · exact .refl _
  · exact (AlertUnit.KeepsLaws.foldl (fun u i => u.takeItem_keepsLaws n i) _ _).of_start rfl

/-! ### The assembler, SVC_DROP, RESTART -/

theorem framePull_keepsLaws : s.alerts.KeepsLaws (framePull s).alerts := by
  obtain same | same := framePull_alerts s <;> rw [same]
  · exact .refl _
  · exact s.alerts.start_keepsLaws _ _

theorem alertCellRequest_keepsLaws : s.alerts.KeepsLaws (alertCellRequest s).alerts := by
  obtain ⟨cursors, same⟩ := alertCellRequest_alerts s
  rw [same]
  exact ⟨id, id⟩

theorem svcDrop_keepsLaws : s.alerts.KeepsLaws (svcDrop b s).1.alerts := by
  unfold svcDrop
  repeat' split
  · exact .refl _
  · exact .refl _
  · exact .refl _
  · dsimp only
    rw [State.dropService_alerts]
    exact ⟨id, id⟩

theorem restartRequest_keepsLaws : s.alerts.KeepsLaws (restartRequest s).alerts := by
  unfold restartRequest restartReady
  repeat' split
  · exact .refl _
  · exact .refl _
  · exact .refl _
  · exact .refl _
  · exact s.alerts.initial_keepsLaws

theorem restartAfterAssembly_keepsLaws : s.alerts.KeepsLaws (restartAfterAssembly s).alerts := by
  unfold restartAfterAssembly
  repeat' split
  · exact .refl _
  · exact .refl _
  · exact s.alerts.initial_keepsLaws

end Commands

/-! ### Every command, and every step -/

section Steps

variable {s t : State}

/-- An event keeps the laws if its effect does. -/
theorem event_keepsAlertLaws {f : State → State} (work : ∀ u : State, u.alerts.KeepsLaws (f u).alerts)
    (h : event f s = .next t) : s.alerts.KeepsLaws t.alerts := by
  rcases event_next h with ⟨_, rfl⟩ | ⟨_, rfl⟩
  · exact .refl _
  · exact work s

/-- A request keeps the laws if its owner does. -/
theorem request_keepsAlertLaws {c : Instr} {owner : Octets → State → State × Answer}
    (work : ∀ (u : State) b, u.alerts.KeepsLaws (owner b u).1.alerts)
    (h : event (request c owner) s = .next t) : s.alerts.KeepsLaws t.alerts :=
  exec_request_keeps (P := fun u => s.alerts.KeepsLaws u.alerts) (fun _ _ => id)
    (fun b u hu => hu.trans (work u b)) (.refl _) h

/-- An event that leaves the alert unit alone. -/
theorem event_keepsAlertLaws_of_kept {f : State → State} (work : ∀ u, (f u).alerts = u.alerts)
    (h : event f s = .next t) : s.alerts.KeepsLaws t.alerts :=
  event_keepsAlertLaws (fun u => .of_eq (work u)) h

/-- A request that leaves the alert unit alone. -/
theorem request_keepsAlertLaws_of_kept {c : Instr} {owner : Octets → State → State × Answer}
    (work : ∀ u b, (owner b u).1.alerts = u.alerts) (h : event (request c owner) s = .next t) :
    s.alerts.KeepsLaws t.alerts := request_keepsAlertLaws (fun u b => .of_eq (work u b)) h

/-- Every command, by the lemma on its own work. -/
theorem exec_keepsAlertLaws (c : Instr) (h : exec c s = .next t) : s.alerts.KeepsLaws t.alerts := by
  cases c with
  | powerOn straps | lossOfPower => cases h; exact s.alerts.initial_keepsLaws
  | hardReset straps =>
    change Host.Outcome.next _ = _ at h
    split at h
    all_goals cases h
    · exact s.alerts.initial_keepsLaws
    · exact .refl _
  | triggerRawChange n level =>
    change execTriggerRawChange n level s = _ at h
    unfold execTriggerRawChange at h
    split at h
    · exact event_keepsAlertLaws (f := triggerRawChange n level) (fun _ => .refl _) h
    · cases h
      exact .refl _
  | alertRaise => exact request_keepsAlertLaws (alertRaise_keepsLaws · ·) h
  | alertClear => exact request_keepsAlertLaws (alertClear_keepsLaws · ·) h
  | trigSet => exact request_keepsAlertLaws (trigSet_keepsLaws · ·) h
  | svcDrop => exact request_keepsAlertLaws (svcDrop_keepsLaws · ·) h
  | alertTimerExpiry n => exact event_keepsAlertLaws (alertTimerExpiry_keepsLaws · n) h
  | filterTimerExpiry n => exact event_keepsAlertLaws (filterTimerExpiry_keepsLaws · n) h
  | offerWordReceived n octets | contributionFrame n octets =>
    exact event_keepsAlertLaws (lineOctets_keepsLaws · octets n) h
  | framePull => exact event_keepsAlertLaws framePull_keepsLaws h
  | alertCellRequest => exact event_keepsAlertLaws alertCellRequest_keepsLaws h
  | restart => exact event_keepsAlertLaws restartRequest_keepsLaws h
  | restartAfterAssembly => exact event_keepsAlertLaws restartAfterAssembly_keepsLaws h
  | svcRead | planRead | outputRead | directoryRead | storeStatus | storeClear | carRead | tplRead
  | trigRead | alertList | pendingRead | status | linkRead =>
    exact request_keepsAlertLaws_of_kept (fun _ _ => rfl) h
  | svcSet => exact request_keepsAlertLaws_of_kept svcSet_alerts h
  | planEdit => exact request_keepsAlertLaws_of_kept planEdit_alerts h
  | planCopy => exact request_keepsAlertLaws_of_kept planCopy_alerts h
  | planCommit => exact request_keepsAlertLaws_of_kept planCommit_alerts h
  | planWithdraw => exact request_keepsAlertLaws_of_kept planWithdraw_alerts h
  | portSet => exact request_keepsAlertLaws_of_kept portSet_alerts h
  | portRenegotiate => exact request_keepsAlertLaws_of_kept portRenegotiate_alerts h
  | portRead => exact request_keepsAlertLaws_of_kept portRead_alerts h
  | objOpen => exact request_keepsAlertLaws_of_kept objOpen_alerts h
  | objLoad => exact request_keepsAlertLaws_of_kept objLoad_alerts h
  | objClose => exact request_keepsAlertLaws_of_kept objClose_alerts h
  | objDrop => exact request_keepsAlertLaws_of_kept objDrop_alerts h
  | objRead => exact request_keepsAlertLaws_of_kept objRead_alerts h
  | carAdd => exact request_keepsAlertLaws_of_kept carAdd_alerts h
  | carRemove => exact request_keepsAlertLaws_of_kept carRemove_alerts h
  | carClear => exact request_keepsAlertLaws_of_kept carClear_alerts h
  | carResume => exact request_keepsAlertLaws_of_kept carResume_alerts h
  | tplErase => exact request_keepsAlertLaws_of_kept tplErase_alerts h
  | tplWrite => exact request_keepsAlertLaws_of_kept tplWrite_alerts h
  | tplLock => exact request_keepsAlertLaws_of_kept tplLock_alerts h
  | tplUnlock => exact request_keepsAlertLaws_of_kept tplUnlock_alerts h
  | cueSet => exact request_keepsAlertLaws_of_kept cueSet_alerts h
  | cueRead => exact request_keepsAlertLaws_of_kept cueRead_alerts h
  | reportSet => exact request_keepsAlertLaws_of_kept reportSet_alerts h
  | messageReceived octets | transmitterFree | outputTransmissionEnd | bitFault page group bits =>
    refine event_keepsAlertLaws_of_kept (fun u => ?_) h
    rfl
  | unknownKind => exact event_keepsAlertLaws_of_kept unknownKind_alerts h
  | startingEnd => exact event_keepsAlertLaws_of_kept startingEnd_alerts h
  | streamTake => exact event_keepsAlertLaws_of_kept streamTake_alerts h
  | cellRequest => exact event_keepsAlertLaws_of_kept cellRequest_alerts h
  | frameAssemblyComplete => exact event_keepsAlertLaws_of_kept frameAssemblyComplete_alerts h
  | stallTimerExpiry => exact event_keepsAlertLaws_of_kept stallTimerExpiry_alerts h
  | offerWordPeriod n => exact event_keepsAlertLaws_of_kept (offerWordPeriod_alerts · n) h
  | listenTimerExpiry n => exact event_keepsAlertLaws_of_kept (listenTimerExpiry_alerts · n) h
  | linkTimerExpiry n => exact event_keepsAlertLaws_of_kept (linkTimerExpiry_alerts · n) h
  | eraseEnd => exact event_keepsAlertLaws_of_kept eraseEnd_alerts h
  | writeEnd => exact event_keepsAlertLaws_of_kept writeEnd_alerts h

theorem step_keepsAlertLaws (h : step s = .next t) : s.alerts.KeepsLaws t.alerts := by
  unfold step at h
  split at h
  · cases h
    split
    · exact s.alerts.tick_keepsLaws
    · exact .refl _
  · rename_i c rest _
    exact exec_keepsAlertLaws (s := s.withPending rest) c h

end Steps

end Sys2Proof.Machine

open Sys2Proof Sys2Proof.Machine

/-- Settles O54: the law of ALERT_ACTIVE and the law of the list, read on the alert unit, through what every
step keeps of it. -/
theorem alertLawsKept : Obligations.AlertLawsKept := by
  intro s t h
  have kept := step_keepsAlertLaws h
  exact ⟨kept.active, fun law => (alertListLaw_iff t).mpr (kept.listed ((alertListLaw_iff s).mp law))⟩

end

section
/-! PROOFS. How a full alert list makes room, what ALERT_RAISE does, and what ALERT_CLEAR, the expiry of an
alert and ALERT_LIST do (R167, R169 to R173, R181). -/

namespace Sys2Proof.Machine

/-! ### Room in a full list (R171) -/

section Levels

variable {l pre post : List Alert} {a : Alert} {n m : Nat}

theorem le_foldl_level_iff :
    n ≤ l.foldl (fun m b => min m b.content.level.val) m ↔
      n ≤ m ∧ ∀ b ∈ l, n ≤ b.content.level.val := by
  induction l generalizing m with
  | nil => simp
  | cons b rest ih => rw [List.foldl_cons, ih, le_min_iff, List.forall_mem_cons, and_assoc]

/-- The level of an alert with none below it is the lowest of the list. -/
theorem lowestLevel_eq (ha : a ∈ l) (lowest : ∀ b ∈ l, a.content.level ≤ b.content.level) :
    lowestLevel l = a.content.level.val :=
  le_antisymm ((le_foldl_level_iff.mp (le_refl (lowestLevel l))).2 a ha)
    (le_foldl_level_iff.mpr ⟨Nat.le_of_lt_succ a.content.level.isLt, lowest⟩)

/-- The latest alert of a level has none of that level behind it. -/
theorem latestOfLevel_eq (split : l = pre ++ a :: post)
    (behind : ∀ b ∈ post, b.content.level.val ≠ a.content.level.val) :
    latestOfLevel l a.content.level.val = some a := by
  refine List.find?_eq_some_iff_append.mpr ⟨decide_eq_true rfl, post.reverse, pre.reverse, ?_, ?_⟩
  · simp [split]
  · intro b hb
    simpa using behind b (List.mem_reverse.mp hb)

end Levels

section Full

variable {u : AlertUnit} {pre post : List Alert} {a : Alert} {level : Fin 8}

/-- The earliest ENDING alert of a full list makes room without a report. -/
theorem AlertUnit.makeRoom_ending (full : u.alerts.length = 8) (split : u.alerts = pre ++ a :: post)
    (ending : a.state ≠ .inForce) (before : ∀ b ∈ pre, b.state = .inForce) :
    u.makeRoom level = some (u.withAlerts (u.without a.number), []) := by
  have earliest : u.alerts.find? (fun b => !b.inForce) = some a :=
    List.find?_eq_some_iff_append.mpr ⟨by simpa [Alert.inForce] using ending, pre, post, split,
      fun b hb => by simpa [Alert.inForce] using before b hb⟩
  rw [AlertUnit.makeRoom, if_neg (by omega), earliest]

/-- With every alert IN_FORCE, the latest of the lowest level gives way to a higher one, and to no other. -/
theorem AlertUnit.makeRoom_lowest (full : u.alerts.length = 8)
    (force : ∀ b ∈ u.alerts, b.state = .inForce) (split : u.alerts = pre ++ a :: post)
    (before : ∀ b ∈ pre, a.content.level ≤ b.content.level)
    (behind : ∀ b ∈ post, a.content.level < b.content.level) :
    u.makeRoom level =
      if a.content.level < level then
        some (u.withAlerts (u.without a.number), [(.alertEnded, [a.number, a.origin.code, 4])])
      else none := by
  have none_ending : u.alerts.find? (fun b => !b.inForce) = none :=
    List.find?_eq_none.mpr fun b hb => by simpa [Alert.inForce] using force b hb
  have lowest : lowestLevel u.alerts = a.content.level.val := by
    refine lowestLevel_eq (split ▸ List.mem_append_right _ List.mem_cons_self) fun b hb => ?_
    rw [split, List.mem_append, List.mem_cons] at hb
    rcases hb with hb | rfl | hb
    · exact before b hb
    · exact le_refl _
    · exact (behind b hb).le
  have latest := latestOfLevel_eq split fun b hb => (Fin.val_ne_of_ne (behind b hb).ne')
  rw [AlertUnit.makeRoom, if_neg (by omega), none_ending, lowest, latest]
  rfl

end Full

/-! ### ALERT_RAISE (R167, R169 to R171) -/

/-- The number given is the next one, unless that is held. -/
theorem AlertUnit.newNumber_next {u : AlertUnit}
    (free : ∀ a ∈ u.alerts, a.number ≠ nextNumber u.lastNumber) :
    u.newNumber = nextNumber u.lastNumber := by
  have notHeld : ¬ (u.alerts.map Alert.number).contains (nextNumber u.lastNumber) = true := by
    simpa using free
  unfold AlertUnit.newNumber
  cases u.alerts.length with
  | zero => rfl
  | succ n => exact if_neg notHeld

section Raise

variable {s : State} {b : Octets} {c : AlertContent}

theorem hostContent_explicit (s : State) (h : c.Valid 0) : hostContent ([2, 0] ++ c.octets) s = .ok c := by
  have content : contentOperand ([2, 0] ++ c.octets) 2 0 = some c := contentOperand_octets [2, 0] h
  have kind : field ([2, 0] ++ c.octets) 0 = 2 := rfl
  simp only [hostContent, kind, content]

theorem hostContent_template (s : State) {i : Fin 16} {w : TemplateContent}
    (written : s.templates.mirror[i] = .written w) :
    hostContent ([1, octet i.val] ++ b) s = .ok w.toAlertContent := by
  have slot : toFin? 16 (field ([1, octet i.val] ++ b) 1) = some i :=
    toFin?_field_octet i (by decide) b
  have kind : field ([1, octet i.val] ++ b) 0 = 1 := rfl
  simp only [hostContent, kind, slot, written, MirrorEntry.content]

theorem alertRaise_refused (content : hostContent b s = .ok c)
    (refused : s.alerts.makeRoom c.level = none ∨ s.alerts.counter = BitVec.allOnes 32) :
    alertRaise b s = (s, .plain .listFull) := by
  simp only [alertRaise, content, AlertUnit.enlist_refused refused.symm]

/-- A raise admitted, under a number that is free where room is made. -/
theorem alertRaise_admitted (content : hostContent b s = .ok c)
    {v : AlertUnit} {events : Events} (below : s.alerts.counter ≠ BitVec.allOnes 32)
    (room : s.alerts.makeRoom c.level = some (v, events)) :
    alertRaise b s =
      ((s.withAlerts
        { v with
          alerts := v.alerts ++
            [{ number := v.newNumber, stamp := s.alerts.counter + 1, origin := .host, content := c
               remaining := c.duration * 1000, state := .inForce }]
          lastNumber := v.newNumber, counter := s.alerts.counter + 1, active := true }).raiseAll
        (events ++ [(.alertAdmitted, [v.newNumber, 0, octet c.level.val])]), .done [v.newNumber]) := by
  simp only [alertRaise, content, AlertUnit.enlist_room below room, AlertUnit.enter_unit,
    AlertUnit.makeRoom_counter room]
  rfl

end Raise

theorem alertRaise_fits (c : AlertContent) : bodyFits 0x70 ([2, 0] ++ c.octets).length = true := by
  rw [List.length_append, c.octets_length]
  rfl

/-! ### One alert of a lawful list -/

section Lawful

variable {s : State} {a : Alert}

/-- The list without an alert's number is what stands before the alert and behind it. -/
theorem AlertListLaw.without_split (law : AlertListLaw s) {pre post : List Alert}
    (split : s.alerts.alerts = pre ++ a :: post) : s.alerts.without a.number = pre ++ post := by
  have distinct : (pre ++ a :: post).Nodup := split ▸ law.numbers.of_map _
  obtain ⟨inPre, inPost⟩ : a ∉ pre ∧ a ∉ post := by
    simpa using (List.nodup_middle.mp distinct).notMem
  have apart {l : List Alert} (out : a ∉ l) : l.filter (fun b => decide (b ≠ a)) = l :=
    List.filter_eq_self.mpr fun b hb => decide_eq_true fun same => out (same ▸ hb)
  rw [law.without_eq (split ▸ List.mem_append_right _ List.mem_cons_self), split, List.filter_append,
    List.filter_cons_of_neg (by simp), apart inPre, apart inPost]

theorem AlertListLaw.find_eq (law : AlertListLaw s) (ha : a ∈ s.alerts.alerts) :
    s.alerts.find a.number = some a := by
  obtain ⟨b, found⟩ : ∃ b, s.alerts.find a.number = some b :=
    Option.isSome_iff_exists.mp (List.find?_isSome.mpr ⟨a, ha, by simp⟩)
  have same : b.number = a.number := by simpa using List.find?_some found
  rw [found, law.eq_of_number (List.mem_of_find?_eq_some found) ha same]

/-- Ending an alert changes the one alert of its number, and ALERT_ACTIVE is left to the others. -/
theorem AlertListLaw.ending_eq (law : AlertListLaw s) (ha : a ∈ s.alerts.alerts) (reason : EndReason) :
    s.alerts.ending a.number reason =
      { s.alerts with
        alerts := s.alerts.alerts.map fun b => if b = a then { a with state := .ending reason 3 } else b
        active := s.alerts.alerts.any fun b => decide (b ≠ a) && decide (b.state = .inForce) } := by
  have each : ∀ b ∈ s.alerts.alerts,
      (if b.number = a.number then { b with state := .ending reason 3 } else b)
        = if b = a then { a with state := .ending reason 3 } else b := by
    intro b hb
    by_cases same : b = a
    · rw [same, if_pos rfl, if_pos rfl]
    · rw [if_neg same, if_neg fun number => same (law.eq_of_number hb ha number)]
  have others (b : Alert) :
      (if b = a then { a with state := .ending reason 3 } else b : Alert).inForce
        = (decide (b ≠ a) && decide (b.state = .inForce)) := by
    by_cases same : b = a <;> simp [same, Alert.inForce]
  rw [AlertUnit.ending, List.map_congr_left each, AlertUnit.withAlerts, List.any_map]
  rw [funext (f := Alert.inForce ∘ _) others]

end Lawful

/-! ### ALERT_CLEAR, the expiry of an alert, ALERT_LIST (R172, R173, R181) -/

section Requests

variable {s : State} {a : Alert}

theorem AlertListLaw.taken (law : AlertListLaw s) (rest : List Request) : AlertListLaw (s.taken rest) :=
  (alertListLaw_iff _).mpr ((alertListLaw_iff s).mp law)

variable (law : AlertListLaw s) (ha : a ∈ s.alerts.alerts)

include law ha

theorem alertClear_found :
    alertClear [a.number] s =
      if a.inForce then (s.endAlert a .cleared, .plain .done) else (s, .plain .alreadyEnding) := by
  have named : field [a.number] 0 ≠ 0 := fun zero => law.numbered a ha (BitVec.eq_of_toNat_eq zero)
  have number : octet (field [a.number] 0) = a.number := by simp [octet]
  rw [alertClear, if_neg named, number, law.find_eq ha]

theorem alertTimerExpiry_found :
    alertTimerExpiry a.number s = if a.due then s.endAlert a .expired else s := by
  rw [alertTimerExpiry, law.find_eq ha]

/-- An alert ended: ENDING with 3 frames left, and ALERT_ENDED with the reason. -/
theorem endAlert_found (reason : EndReason) :
    s.endAlert a reason =
      (s.withAlerts
        { s.alerts with
          alerts := s.alerts.alerts.map fun b => if b = a then { a with state := .ending reason 3 } else b
          active := s.alerts.alerts.any fun b =>
            decide (b ≠ a) && decide (b.state = .inForce) }).raise .alertEnded
        [a.number, a.origin.code, reason.code] := by
  rw [State.endAlert, law.ending_eq ha]

end Requests

end Sys2Proof.Machine

open Sys2Proof Sys2Proof.Machine

/-- Settles O51: room by the earliest ENDING alert, or by the latest of the lowest level, and ALERT_RAISE by
whether room is made. -/
theorem fullListMakesRoom : Obligations.FullListMakesRoom := by
  intro s law full
  refine ⟨fun level pre post a split => ?room, fun r rest c h kind valid body => ?raise⟩
  case room =>
    have left := law.without_split split
    refine ⟨fun ending before => ?_, fun force before behind => ?_⟩
    · rw [AlertUnit.makeRoom_ending full split ending before, left]
      rfl
    · rw [AlertUnit.makeRoom_lowest full force split before behind, left]
      exact ⟨fun higher => if_pos higher, fun high => if_neg high.not_gt⟩
  case raise =>
    have content := hostContent_explicit (s.taken rest) valid
    refine ⟨fun refused => exec_request_of h kind body rfl (alertRaise_fits c)
      (alertRaise_refused content refused), fun u events room below => ?_⟩
    have few := AlertUnit.makeRoom_length room full.le
    exact ⟨u.newNumber, u.newNumber_ne_zero, AlertUnit.newNumber_free (by omega),
      exec_request_of h kind body rfl (alertRaise_fits c) (alertRaise_admitted content below room)⟩

/-- Settles O50: ALERT_RAISE by its content and the room in the list, and the others by the one alert of
their number. -/
theorem alertRaiseClearExpireList : Obligations.AlertRaiseClearExpireList := by
  intro s law
  refine ⟨fun r rest c h kind source few below => ?raise, fun r rest a h kind body ha => ?clear,
    fun a ha on early => ?early, fun a ha on force duration zero => ?due,
    fun r rest h kind body => ?list⟩
  case raise =>
    obtain ⟨fits, content⟩ : bodyFits 0x70 r.body.length = true ∧
        hostContent r.body (s.taken rest) = .ok c := by
      rcases source with ⟨valid, body⟩ | ⟨i, b, w, body, length, written, rfl⟩ <;> rw [body]
      · exact ⟨alertRaise_fits c, hostContent_explicit _ valid⟩
      · refine ⟨?_, hostContent_template _ written⟩
        rw [List.length_append, length]
        rfl
    refine ⟨s.alerts.newNumber, s.alerts.newNumber_ne_zero, AlertUnit.newNumber_free (by omega), ?_,
      exec_request_of h kind rfl rfl fits
        (alertRaise_admitted content below (AlertUnit.makeRoom_below few c.level))⟩
    rintro after rfl free
    exact AlertUnit.newNumber_next free
  case clear =>
    have found := alertClear_found (law.taken rest) ha
    refine ⟨fun force => ?_, fun ending => ?_⟩
    · rw [if_pos (a.inForce_iff.mpr force), endAlert_found (law.taken rest) ha] at found
      exact exec_request_of h kind body rfl rfl found
    · rw [if_neg (mt a.inForce_iff.mp ending)] at found
      exact exec_request_of h kind body rfl rfl found
  case early =>
    refine event_of_effect on ((alertTimerExpiry_found law ha).trans (if_neg fun due => ?_))
    obtain ⟨force, duration, zero⟩ := a.due_iff.mp due
    rcases early with ending | unlimited | left
    · exact ending force
    · exact duration unlimited
    · exact left zero
  case due =>
    refine event_of_effect on ((alertTimerExpiry_found law ha).trans ?_)
    rw [if_pos (a.due_iff.mpr ⟨force, duration, zero⟩), endAlert_found law ha]
    rfl
  case list =>
    refine exec_request_of h kind body rfl rfl ?_
    refine congrArg (fun record => (s.taken rest, Answer.done
      ([octet s.alerts.alerts.length, s.alerts.lastNumber] ++ s.alerts.alerts.flatMap record)))
      (funext fun a => ?_)
    show s.alerts.record a = _
    rw [AlertUnit.record]
    simp only [a.timed_iff]
    cases a.state with
    | inForce => rfl
    | ending reason left => cases reason <;> rfl

end

section
/-! PROOFS. What the alert unit does at a frame assembly start (R174 to R176). -/

namespace Sys2Proof.Machine

/-! ### The choice among covering alerts (R175) -/

theorem Alert.covers_iff (a : Alert) (v : Service) :
    a.covers v = true ↔ a.state = .inForce ∧ a.content.regions &&& v.regions ≠ 0 ∧
      v.protection < a.content.level := by
  simp only [Alert.covers, Bool.and_eq_true, a.inForce_iff, decide_eq_true_iff, and_assoc]

/-- An alert found so far stays against alerts of no higher level: of equals the earlier wins. -/
theorem foldl_betterTaker_stays {a : Alert} {l : List Alert}
    (h : ∀ b ∈ l, b.content.level ≤ a.content.level) : l.foldl betterTaker (some a) = some a := by
  induction l with
  | nil => rfl
  | cons b rest ih =>
    obtain ⟨first, others⟩ := List.forall_mem_cons.mp h
    rw [List.foldl_cons, betterTaker, if_neg (Fin.not_lt.mpr first)]
    exact ih others

/-- The one found among alerts of lower levels has a lower level, and gives way. -/
theorem betterTaker_foldl_of_lower {a : Alert} {l : List Alert}
    (h : ∀ b ∈ l, b.content.level < a.content.level) :
    betterTaker (l.foldl betterTaker none) a = some a := by
  have lower : ∀ b, l.foldl betterTaker none = some b → b ∈ l :=
    List.foldlRecOn (motive := fun best : Option Alert => ∀ b, best = some b → b ∈ l) _ _ nofun
      fun best old x hx b hb => betterTaker_mem hb old hx
  cases best : l.foldl betterTaker none with
  | none => rfl
  | some b => exact if_pos (h b (lower b best))

section Coverage

variable {v : Service} {alerts pre post : List Alert} {a : Alert}

/-- The covering alert of highest level, the earliest of equals, takes the service. -/
theorem takerOf_highest (split : alerts = pre ++ a :: post) (covers : a.covers v = true)
    (before : ∀ b ∈ pre, b.covers v = true → b.content.level < a.content.level)
    (behind : ∀ b ∈ post, b.covers v = true → b.content.level ≤ a.content.level) :
    takerOf alerts v = some a := by
  have inside (l : List Alert) {b : Alert} (hb : b ∈ l.filter fun x => x.covers v) :
      b ∈ l ∧ b.covers v = true := List.mem_filter.mp hb
  subst split
  have first : (a :: post).filter (fun x => x.covers v) = a :: post.filter fun x => x.covers v :=
    List.filter_cons_of_pos covers
  rw [takerOf, List.filter_append, first, List.foldl_append, List.foldl_cons,
    betterTaker_foldl_of_lower fun b hb => before b (inside pre hb).1 (inside pre hb).2,
    foldl_betterTaker_stays fun b hb => behind b (inside post hb).1 (inside post hb).2]

theorem takerOf_eq_none (h : ∀ a ∈ alerts, ¬ a.covers v = true) : takerOf alerts v = none := by
  rw [takerOf, List.filter_eq_nil_iff.mpr h]
  rfl

end Coverage

/-! ### The records at a start (R176) -/

section Records

variable (u : AlertUnit) (view : ServiceTable) (onAir : Fin 32 → Bool) {i : Fin 32}

theorem AlertUnit.start_alerts : (u.start view onAir).1.alerts = u.alerts.filterMap Alert.age := rfl

/-- The record of a service that is on air names the alert that takes it. -/
theorem AlertUnit.start_takes {w : Service} (on : onAir i = true) (defined : view[i] = some w) :
    (u.start view onAir).1.takers[i]
      = (takerOf (u.start view onAir).1.alerts w).map Alert.stamp := by
  rw [u.start_taker view onAir on, decidedTaker, if_pos on, defined, Option.bind_some]

/-- A new taker starts the text from its first cell; every other cursor stays. -/
theorem AlertUnit.start_cursor (on : onAir i = true) :
    (u.start view onAir).1.cursors[i] =
      if (u.start view onAir).1.takers[i] ≠ none ∧
          (u.start view onAir).1.takers[i] ≠ u.takers[i] then 0
      else u.cursors[i] := by
  have before : u.age.takers = u.takers := rfl
  have cursors : u.age.cursors = u.cursors := rfl
  rw [u.start_taker view onAir on]
  show (Vector.ofFn _)[i] = _
  simp only [Fin.getElem_fin, Vector.getElem_ofFn, Fin.eta, on, true_and, Bool.and_eq_true,
    decide_eq_true_iff, Option.isSome_iff_ne_none, before, cursors]
  rfl

/-- A service that is not on air keeps its record and its cursor. -/
theorem AlertUnit.start_offAir (off : onAir i = false) :
    (u.start view onAir).1.takers[i] = u.takers[i] ∧
      (u.start view onAir).1.cursors[i] = u.cursors[i] := by
  constructor
  · show (Vector.ofFn _)[i] = _
    simp only [Fin.getElem_fin, Vector.getElem_ofFn, Fin.eta, off, Bool.false_eq_true, if_false]
    rfl
  · show (Vector.ofFn _)[i] = _
    simp only [Fin.getElem_fin, Vector.getElem_ofFn, Fin.eta, off, Bool.false_and, Bool.false_eq_true,
      if_false]
    rfl

end Records

end Sys2Proof.Machine

open Sys2Proof Sys2Proof.Machine

/-- Settles O52: the list aged, and each record by the alert that takes its service. -/
theorem coverageTakesTheHighestEarliest : Obligations.CoverageTakesTheHighestEarliest := by
  rintro u view onAir v rfl
  refine ⟨rfl, rfl, rfl, fun i off => u.start_offAir view onAir off,
    fun i w covers on defined meaning => ?_⟩
  have meets (a : Alert) : covers a ↔ a.covers w = true := (meaning a).trans (a.covers_iff w).symm
  have taker := u.start_takes view onAir on defined
  rw [u.start_cursor view onAir on]
  refine ⟨fun pre post a split covered before behind => ?taken, fun uncovered => ?own⟩
  case taken =>
    rw [takerOf_highest split ((meets a).mp covered) (fun b hb => before b hb ∘ (meets b).mpr)
      fun b hb => behind b hb ∘ (meets b).mpr, Option.map_some] at taker
    refine ⟨taker, ?_⟩
    rw [taker]
    by_cases same : u.takers[i] = some a.stamp
    · rw [if_pos same, if_neg fun h => h.2 same.symm]
    · rw [if_neg same, if_pos ⟨Option.some_ne_none _, Ne.symm same⟩]
  case own =>
    rw [takerOf_eq_none fun a ha => mt (meets a).mpr (uncovered a ha), Option.map_none] at taker
    exact ⟨taker, if_neg fun h => h.1 taker⟩

end

section
/-! PROOFS. Requests taken while STARTING, requests that do not fit, RESTART, and the control unit's own
requests (R187, R192 to R196). -/

namespace Sys2Proof.Machine

/-! ### The command that takes a request of a kind (R187, R197) -/

/-- Every row of the kinds but RESTART is an owner's work on the oldest request. -/
theorem requestRow_cases {k : Octet} {c : Instr} {least greatest : Nat}
    (row : requestRow k = some (c, least, greatest)) :
    (c = .restart ∧ least = 0 ∧ greatest = 0) ∨
      ∃ owner, ∀ s, exec c s = event (request c owner) s := by
  unfold requestRow at row
  split at row
  case h_42 => cases row; exact .inl ⟨rfl, rfl, rfl⟩
  case h_43 => cases row
  all_goals cases row; exact .inr ⟨_, fun _ => rfl⟩

theorem commandOfKind_row {k : Octet} {c : Instr} {least greatest : Nat}
    (row : requestRow k = some (c, least, greatest)) : commandOfKind k = c := by
  rw [commandOfKind, row]

theorem commandOfKind_unknown {k : Octet} (row : requestRow k = none) :
    commandOfKind k = .unknownKind := by rw [commandOfKind, row]

theorem bodyFits_row {k : Octet} {c : Instr} {least greatest : Nat}
    (row : requestRow k = some (c, least, greatest)) (n : Nat) :
    bodyFits k n = true ↔ least ≤ n ∧ n ≤ greatest := by
  rw [bodyFits, row]
  simp only [Bool.and_eq_true, decide_eq_true_iff]

section Taken

variable {s : State} {r : Request} {rest : List Request} {c : Instr}

/-- The oldest request is taken by the command of its kind, if none is being carried out (R187). -/
theorem Control.takes_oldest {u : Control} (free : u.restarting = none)
    (begun : ∀ x ∈ u.replies, x.code = .queueFull) (oldest : u.requests = r :: rest)
    (kind : commandOfKind r.kind = c) : u.takes c = some (r, { u with requests := rest }) := by
  have may : u.mayTake = true := by simpa [Control.mayTake, free] using begun
  rw [Control.takes, oldest]
  exact if_pos ⟨may, kind⟩

theorem Taking.takes (h : Taking s r rest) (kind : commandOfKind r.kind = c) :
    s.control.takes c = some (r, { s.control with requests := rest }) :=
  Control.takes_oldest h.free h.begun h.oldest kind

/-! ### A request taken, by the phase and the body (R187, R193 to R195) -/

section Phases

variable {u : Control}

theorem unknownKind_starting (taken : s.control.takes .unknownKind = some (r, u))
    (phase : s.control.phase = .starting) :
    unknownKind s = (s.withControl u).answer r (.plain .busy) := by
  simp only [unknownKind, taken, phase]

theorem unknownKind_ready (taken : s.control.takes .unknownKind = some (r, u))
    (phase : s.control.phase = .ready) :
    unknownKind s =
      (s.withControl (u.countFault LinkFaults.countUnknownKind)).answer r (.plain .unknownKind) := by
  simp only [unknownKind, taken, phase]

theorem restartRequest_starting (taken : s.control.takes .restart = some (r, u))
    (phase : s.control.phase = .starting) :
    restartRequest s = (s.withControl u).answer r (.plain .busy) := by
  simp only [restartRequest, taken, phase]

theorem restartRequest_ready (taken : s.control.takes .restart = some (r, u))
    (phase : s.control.phase = .ready) : restartRequest s = restartReady r (s.withControl u) := by
  simp only [restartRequest, taken, phase]

/-- An owner is not asked while STARTING. -/
theorem request_starting (owner : Octets → State → State × Answer)
    (taken : s.control.takes c = some (r, u)) (phase : u.phase = .starting) :
    request c owner s = (s.withControl u).answer r (.plain .busy) := by
  simp only [request, taken, serve, State.withControl_control, phase]

/-- Nor is it asked about a body that its kind does not allow. -/
theorem request_unfit (owner : Octets → State → State × Answer)
    (taken : s.control.takes c = some (r, u)) (phase : u.phase = .ready)
    (unfit : bodyFits r.kind r.body.length = false) :
    request c owner s =
      (s.withControl (u.countFault LinkFaults.countBadForm)).answer r (.plain .badForm) := by
  simp only [request, taken, serve, State.withControl_control, phase, unfit, Bool.false_eq_true,
    if_false, State.withControl_twice]

theorem restartReady_unfit (h : r.body ≠ []) :
    restartReady r s =
      (s.withControl (s.control.countFault LinkFaults.countBadForm)).answer r (.plain .badForm) :=
  if_pos h

theorem restartReady_fit (h : r.body = []) :
    restartReady r s =
      if s.output.assembling then s.withControl { s.control with restarting := some r.tag }
      else s.restart r.tag := if_neg (not_not.mpr h)

end Phases

/-- While STARTING the command of any kind answers BUSY (R193). -/
theorem exec_starting (on : s.powered = true) (phase : s.control.phase = .starting)
    (taken : s.control.takes (commandOfKind r.kind) = some (r, { s.control with requests := rest })) :
    exec (commandOfKind r.kind) s = .next ((s.taken rest).replied r .busy []) := by
  cases row : requestRow r.kind with
  | none =>
    rw [commandOfKind_unknown row] at taken ⊢
    exact event_of_effect on (unknownKind_starting taken phase)
  | some x =>
    obtain ⟨c, least, greatest⟩ := x
    rw [commandOfKind_row row] at taken ⊢
    rcases requestRow_cases row with ⟨rfl, -, -⟩ | ⟨owner, run⟩
    · exact event_of_effect on (restartRequest_starting taken phase)
    · rw [run]
      exact event_of_effect on (request_starting owner taken phase)

/-- While READY a body of another length than its kind allows is answered BAD_FORM, by RESTART too. -/
theorem exec_unfit {least greatest : Nat} (h : Taking s r rest)
    (row : requestRow r.kind = some (c, least, greatest))
    (unfit : r.body.length < least ∨ greatest < r.body.length) :
    exec c s = .next
      ((s.withControl
        { s.control with requests := rest, faults := s.control.faults.countBadForm }).replied r
        .badForm []) := by
  have taken := h.takes (commandOfKind_row row)
  rcases requestRow_cases row with ⟨rfl, rfl, rfl⟩ | ⟨owner, run⟩
  · have body : r.body ≠ [] := List.length_pos_iff.mp (by omega)
    exact event_of_effect h.powered
      ((restartRequest_ready taken h.ready).trans (restartReady_unfit body))
  · have fits : bodyFits r.kind r.body.length = false :=
      Bool.eq_false_iff.mpr fun fits => by
        have := (bodyFits_row row _).mp fits
        omega
    rw [run]
    exact event_of_effect h.powered (request_unfit owner taken h.ready fits)

/-! ### The end of STARTING, and RESTART (R193, R194) -/

theorem startingEnd_due (phase : s.control.phase = .starting) (due : s.control.startTimer = some 0) :
    startingEnd s = s.withControl s.control.startingEnds := by
  simp only [startingEnd, phase, (Timer.due_iff _).mpr due, if_true]

/-- A RESTART that waits is carried out once no assembly is in progress. -/
theorem restartAfterAssembly_idle {tag : Octet} (waits : s.control.restarting = some tag)
    (idle : s.output.assembling = false) : restartAfterAssembly s = s.restart tag := by
  simp only [restartAfterAssembly, waits, idle, Bool.false_eq_true, if_false]

/-! ### REPORT_SET (R192) -/

theorem reportSet_octets (i : Fin 24) (level : Fin 8) :
    reportSet [octet i.val, octet level.val] s =
      (s.withControl
        { s.control with
          reports := updateAt s.control.reports i fun x => { x with level := level } },
        .plain .done) := by
  have source : toFin? 24 (field [octet i.val, octet level.val] 0) = some i :=
    toFin?_field_octet i (by decide) _
  have set_to : toFin? 8 (field [octet i.val, octet level.val] 1) = some level :=
    toFin?_field_octet level (by decide) []
  simp only [reportSet, source, set_to]

end Taken

end Sys2Proof.Machine

open Sys2Proof Sys2Proof.Machine

/-- Settles O6: a request taken by what its kind's command does while STARTING, STARTING_END by its timer. -/
theorem startingIsBusyAndEndsReady : Obligations.StartingIsBusyAndEndsReady := by
  refine fun s on phase => ⟨fun r rest free begun oldest => ?_, fun early => ?_, fun due => ?_⟩
  · exact exec_starting on phase (Control.takes_oldest free begun oldest rfl)
  · have notDue : s.control.startTimer.due = false := Bool.eq_false_iff.mpr (mt (Timer.due_iff _).mp early)
    exact event_of_effect on (startingEnd_otherwise notDue)
  · exact event_of_effect on (startingEnd_due phase due)

/-- Settles O7: a RESTART by its empty body, and one that waits by `restartAfterAssembly_idle`. -/
theorem restartIsCarriedOutOrWaits : Obligations.RestartIsCarriedOutOrWaits := by
  refine ⟨fun s r rest h kind body => ?_, fun s tag on waits idle => ?_⟩
  · have taken := h.takes (c := .restart) (by rw [kind]; rfl)
    refine (event_of_effect h.powered
      ((restartRequest_ready taken h.ready).trans (restartReady_fit body))).trans ?_
    rw [apply_ite State.choose]
    rfl
  · exact event_of_effect on (restartAfterAssembly_idle waits idle)

/-- Settles O12: a kind of no row by `unknownKind_ready`, a body that does not fit by `exec_unfit`. -/
theorem unfitRequestsAreRefused : Obligations.UnfitRequestsAreRefused := fun _ _ _ h =>
  ⟨fun unknown =>
    event_of_effect h.powered (unknownKind_ready (h.takes (commandOfKind_unknown unknown)) h.ready),
    fun _ _ _ row unfit => exec_unfit h row unfit⟩

/-- Settles O15: each request by its owner's work. -/
theorem controlUnitRequests : Obligations.ControlUnitRequests := by
  refine fun s r rest h => ⟨fun i level kind body => ?set, fun kind body => ?pending,
    fun kind body => ?link, fun kind body => ?status⟩
  case set => exact exec_request_of h kind body rfl rfl (reportSet_octets i level)
  case pending => exact exec_request_of h kind body rfl rfl rfl
  case link => exact exec_request_of h kind body rfl rfl rfl
  case status =>
    refine exec_request_of h kind body rfl rfl ?_
    simp only [reading, statusRead, State.taken_control, h.ready]
    rfl

end

section
/-! PROOFS. Events recorded, and what a free transmitter sends (R189 to R191). -/

namespace Sys2Proof.Machine

/-! ### A record after an event (R190) -/

theorem padTo_of_length_le {n : Nat} {b : Octets} (h : b.length ≤ n) :
    padTo n b = b ++ List.replicate (n - b.length) 0 := by
  rw [padTo, List.take_append, List.take_of_length_le h, List.take_replicate,
    Nat.min_eq_left (Nat.sub_le _ _)]

/-- An octet count stays at 255. -/
theorem satInc_octet (n : BitVec 8) : satInc n = if n = 255 then 255 else n + 1 := by
  by_cases full : n = BitVec.allOnes 8
  · rw [full, satInc_full]
    rfl
  · exact (satInc_below full).trans (if_neg full).symm

/-! ### The source of the next notice (R189) -/

section Notices

variable {c : Control} {i : Fin 24}

theorem ReportRecord.due_iff (r : ReportRecord) : r.due = true ↔ r.pending = true ∧ r.level ≠ 0 := by
  simp only [ReportRecord.due, Bool.and_eq_true, decide_eq_true_iff]

/-- The better of two is one of the two, and the new one only if its notice may go out. -/
theorem Control.better_cases {best : Option (Fin 24)} {b : Fin 24} (h : c.better best i = some b) :
    best = some b ∨ (b = i ∧ c.reports[i].due = true) := by
  unfold Control.better at h
  split at h
  · rename_i due
    split at h
    · exact .inr ⟨(Option.some.inj h).symm, due⟩
    · split at h
      · exact .inr ⟨(Option.some.inj h).symm, due⟩
      · exact .inl h
  · exact .inl h

/-- What is found among some sources is one of them whose notice may go out. -/
theorem Control.foldl_better_mem {l : List (Fin 24)} {b : Fin 24}
    (h : l.foldl c.better none = some b) : b ∈ l ∧ c.reports[b].due = true := by
  refine List.foldlRecOn
    (motive := fun best : Option (Fin 24) => ∀ b, best = some b → b ∈ l ∧ c.reports[b].due = true)
    l c.better (by nofun) (fun best old i hi b hb => ?_) b h
  rcases Control.better_cases hb with same | ⟨rfl, due⟩
  · exact old b same
  · exact ⟨hi, due⟩

/-- A source found stays against sources of no higher level. -/
theorem Control.foldl_better_stays {l : List (Fin 24)}
    (h : ∀ j ∈ l, c.reports[j].due = true → c.reports[j].level ≤ c.reports[i].level) :
    l.foldl c.better (some i) = some i := by
  induction l with
  | nil => rfl
  | cons j rest ih =>
    obtain ⟨first, others⟩ := List.forall_mem_cons.mp h
    have keeps : c.better (some i) j = some i := by
      unfold Control.better
      split
      · rename_i due
        exact if_neg (not_lt.mpr (first due))
      · rfl
    rw [List.foldl_cons, keeps]
    exact ih others

/-- A source gives way to one of higher level whose notice may go out. -/
theorem Control.better_of_lower {best : Option (Fin 24)} (due : c.reports[i].due = true)
    (lower : ∀ b, best = some b → c.reports[b].level < c.reports[i].level) :
    c.better best i = some i := by
  unfold Control.better
  rw [if_pos due]
  cases best with
  | none => rfl
  | some b => exact if_pos (lower b rfl)

/-- Of the pending sources the one of highest level is found, and the lowest index among equals. -/
theorem Control.noticeSource_highest (due : c.reports[i].due = true)
    (highest : ∀ j : Fin 24, c.reports[j].due = true →
      c.reports[j].level < c.reports[i].level ∨ (c.reports[j].level = c.reports[i].level ∧ i ≤ j)) :
    c.noticeSource = some i := by
  obtain ⟨before, behind, split⟩ := List.append_of_mem (List.mem_finRange i)
  have ascending : ∀ j ∈ before, j < i := fun j hj =>
    (List.pairwise_append.mp (split ▸ List.pairwise_lt_finRange 24)).2.2 j hj i List.mem_cons_self
  have lower : ∀ b, before.foldl c.better none = some b → c.reports[b].level < c.reports[i].level := by
    intro b hb
    obtain ⟨mem, bDue⟩ := Control.foldl_better_mem hb
    exact (highest b bDue).resolve_right fun equal => not_lt.mpr equal.2 (ascending b mem)
  rw [Control.noticeSource, split, List.foldl_append, List.foldl_cons, Control.better_of_lower due lower]
  exact Control.foldl_better_stays fun j _ jDue => (highest j jDue).elim le_of_lt fun equal => equal.1.le

theorem Control.noticeSource_eq_none (h : ∀ j : Fin 24, ¬ c.reports[j].due = true) :
    c.noticeSource = none :=
  Option.eq_none_iff_forall_ne_some.mpr fun j found => h j (Control.foldl_better_mem found).2

end Notices

/-- When a message ends the transmitter, now free, makes its choice. -/
theorem exec_transmitterFree {s : State} {c : Control} (on : s.powered = true)
    (choice : { s.control with transmitter := none }.choose = c) :
    exec .transmitterFree s = .next (s.withControl c) :=
  (event_on on).trans (congrArg (fun x => Host.Outcome.next (s.withControl x)) choice)

end Sys2Proof.Machine

open Sys2Proof Sys2Proof.Machine

/-- Settles O14: the record by `updateAt`, its detail by `padTo_of_length_le`. -/
theorem raiseRecordsTheEvent : Obligations.RaiseRecordsTheEvent := by
  intro s source detail short
  refine ⟨updateAt s.control.reports source.index fun r => r.raise detail, rfl, ?_⟩
  rw [updateAt_same]
  exact ⟨rfl, satInc_octet _, padTo_of_length_le short, rfl, fun i other => updateAt_other _ _ other⟩

/-- Settles O13: the choice of a free transmitter by the replies, and then by the source of the notice. -/
theorem transmitterSendsRepliesThenNotices : Obligations.TransmitterSendsRepliesThenNotices := by
  refine fun s m on _ => ⟨fun r rest waits => ?reply,
    fun i none_waits ready pending level highest => ?notice, fun none_waits quiet => ?idle⟩
  case reply => exact exec_transmitterFree on (Control.choose_reply rfl waits)
  case notice =>
    refine exec_transmitterFree on (Control.choose_notice rfl none_waits ready ?_)
    exact Control.noticeSource_highest ((ReportRecord.due_iff _).mpr ⟨pending, level⟩) fun j due =>
      highest j ((ReportRecord.due_iff _).mp due).1
  case idle =>
    refine exec_transmitterFree on (Control.choose_idle rfl none_waits (quiet.imp_right fun none_due => ?_))
    refine Control.noticeSource_eq_none fun j due => ?_
    obtain ⟨pending, level⟩ := (ReportRecord.due_iff _).mp due
    exact (none_due j).elim (fun h => Bool.false_ne_true (h.symm.trans pending)) level

end

section
/-! PROOFS. The receiver: the message at a lead octet, what a whole message and a receive fault do, and the
octets behind a fault examined again (R184 to R186, R197; log 14). -/

namespace Sys2Proof.Machine

/-! ### Octets on the control link's line -/

@[simp] theorem clean_cons (o : Octet) (b : Octets) :
    clean (o :: b) = { value := o, fault := false } :: clean b := rfl

@[simp] theorem clean_append (a b : Octets) : clean (a ++ b) = clean a ++ clean b := List.map_append

@[simp] theorem clean_length (b : Octets) : (clean b).length = b.length := List.length_map _

@[simp] theorem lineValues_append (os more : List LineOctet) :
    lineValues (os ++ more) = lineValues os ++ lineValues more := List.map_append

@[simp] theorem lineValues_cons (o : LineOctet) (os : List LineOctet) :
    lineValues (o :: os) = o.value :: lineValues os := rfl

@[simp] theorem lineValues_clean (b : Octets) : lineValues (clean b) = b := by
  simp [lineValues, clean, Function.comp_def]

/-- No octet delivered without a fault has one. -/
theorem clean_any_fault (b : Octets) : (clean b).any LineOctet.fault = false := by simp [clean]

/-- A quantity in the octets that come first. -/
theorem field16_before {a b : Octets} {n : Nat} (h : n + 1 < a.length) :
    field16 (a ++ b) n = field16 a n := by
  simp only [field16, field]
  rw [List.getD_append _ _ _ _ (by omega), List.getD_append _ _ _ _ h]

/-- Octets in front of those that come first of all. -/
theorem span_before {a b : Octets} {i n : Nat} (h : i + n ≤ a.length) :
    span (a ++ b) i n = span a i n := by
  rw [span, List.drop_append_of_le_length (by omega), List.take_append_of_le_length (by simp; omega), span]

/-! ### The message at a lead octet (R184, R185, R197) -/

section Read

variable {os more : List LineOctet} {b : Octets}

/-- A line fault within the message goes before the fault that its octet completes (log 14). -/
theorem readMessage_line
    (faulty : ((os.take (messageSpan os.length (lineValues os))).drop 1).any LineOctet.fault = true) :
    readMessage os = some (.fault .line, 1) := if_pos faulty

/-- Octets without a fault, as far as the message goes. -/
theorem take_drop_clean_any_fault {n : Nat} (h : n ≤ b.length) :
    (((clean b ++ more).take n).drop 1).any LineOctet.fault = false := by
  rw [List.take_append_of_le_length (by simpa using h), clean, ← List.map_take, ← List.map_drop]
  exact clean_any_fault _

/-- A body length above the greatest is a fault, whatever follows. -/
theorem readMessage_length (five : b.length = 5) (excess : bodyLimit < field16 b 3) :
    readMessage (clean b ++ more) = some (.fault .length, 1) := by
  have held : ¬ (clean b ++ more).length < 5 := by simp [five]
  have length : bodyLimit < field16 (lineValues (clean b ++ more)) 3 := by
    rwa [lineValues_append, lineValues_clean, field16_before (by omega)]
  have ends : messageSpan (clean b ++ more).length (lineValues (clean b ++ more)) = 5 := by
    rw [messageSpan, if_neg held, if_pos length]
  unfold readMessage
  simp only
  rw [ends, take_drop_clean_any_fault five.ge, if_neg Bool.false_ne_true, if_neg held, if_pos length]

/-- A message delimited by its length passes its check or fails it. -/
theorem checkMessage_delimited {high low : Octet} {behind : Octets}
    (length : b.length = field16 b 2 + 4) :
    checkMessage (0xA7 :: (b ++ high :: low :: behind)) (field16 b 2) =
      if (check16 b).toNat = high.toNat * 256 + low.toNat then
        .message { kind := b.getD 0 0, tag := b.getD 1 0, body := b.drop 4 }
      else .fault .check := by
  have covered : span (0xA7 :: (b ++ high :: low :: behind)) 1 (field16 b 2 + 4) = b := by
    rw [span_succ, ← length, span_before (by omega), span, List.drop_zero, List.take_length]
  have check : field16 (0xA7 :: (b ++ high :: low :: behind)) (field16 b 2 + 5)
      = high.toNat * 256 + low.toNat := by
    rw [field16_succ, ← length, field16_behind le_rfl, Nat.sub_self]
    rfl
  have body : span (0xA7 :: (b ++ high :: low :: behind)) 5 (field16 b 2) = b.drop 4 := by
    rw [span_succ, span_before (by omega), span, List.take_of_length_le (by simp; omega)]
  have kind : (0xA7 :: (b ++ high :: low :: behind)).getD 1 0 = b.getD 0 0 :=
    List.getD_append b _ 0 0 (by omega)
  have tag : (0xA7 :: (b ++ high :: low :: behind)).getD 2 0 = b.getD 1 0 :=
    List.getD_append b _ 0 1 (by omega)
  rw [checkMessage, covered, check, body, kind, tag]

/-- The same on the line, with any two octets in the place of the check, whatever follows. -/
theorem readMessage_delimited {high low : Octet} (length : b.length = field16 b 2 + 4)
    (limit : field16 b 2 ≤ 1100) :
    readMessage (clean (0xA7 :: b ++ [high, low]) ++ more) =
      some (if (check16 b).toNat = high.toNat * 256 + low.toNat then
          (.message { kind := b.getD 0 0, tag := b.getD 1 0, body := b.drop 4 }, field16 b 2 + 7)
        else (.fault .check, 1)) := by
  have values : lineValues (clean (0xA7 :: b ++ [high, low]) ++ more)
      = 0xA7 :: (b ++ high :: low :: lineValues more) := by simp
  have bodyLength : field16 (0xA7 :: (b ++ high :: low :: lineValues more)) 3 = field16 b 2 := by
    rw [field16_succ, field16_before (by omega)]
  have held : field16 b 2 + 7 ≤ (clean (0xA7 :: b ++ [high, low]) ++ more).length := by
    simp
    omega
  have within : ¬ bodyLimit < field16 b 2 := not_lt.mpr limit
  have ends : messageSpan (clean (0xA7 :: b ++ [high, low]) ++ more).length
      (0xA7 :: (b ++ high :: low :: lineValues more)) = field16 b 2 + 7 := by
    rw [messageSpan, if_neg (by omega), bodyLength, if_neg within, Nat.min_eq_right held]
  unfold readMessage
  simp only
  rw [values, ends, take_drop_clean_any_fault (by simp; omega), if_neg Bool.false_ne_true, if_neg (by omega),
    bodyLength, if_neg within, if_neg (by omega), checkMessage_delimited length]
  by_cases passes : (check16 b).toNat = high.toNat * 256 + low.toNat
  · simp only [if_pos passes]
  · simp only [if_neg passes]

/-- An octet behind the lead octet, within what is looked at. -/
theorem mem_take_drop {first x : LineOctet} {n : Nat} (h : os.length + 2 ≤ n) :
    x ∈ ((first :: (os ++ x :: more)).take n).drop 1 := by
  obtain ⟨k, rfl⟩ : ∃ k, n = os.length + (k + 1) + 1 := ⟨n - (os.length + 2), by omega⟩
  rw [List.take_succ_cons, List.drop_one, List.tail_cons, List.take_length_add_append, List.take_succ_cons]
  exact List.mem_append_right _ List.mem_cons_self

/-- A line fault on an octet that belongs to the message as far as its octets tell. -/
theorem readMessage_lineFault (o : Octet)
    (inside : b.length < 4 ∨ (field16 b 2 ≤ 1100 ∧ b.length < field16 b 2 + 6)) :
    readMessage (clean (0xA7 :: b) ++ { value := o, fault := true } :: more)
      = some (.fault .line, 1) := by
  have values : lineValues (clean (0xA7 :: b) ++ { value := o, fault := true } :: more)
      = 0xA7 :: (b ++ o :: lineValues more) := by simp
  have held : (clean (0xA7 :: b) ++ { value := o, fault := true } :: more).length
      = b.length + 2 + more.length := by
    simp
    omega
  have bodyLength : 4 ≤ b.length →
      field16 (0xA7 :: (b ++ o :: lineValues more)) 3 = field16 b 2 := fun long => by
    rw [field16_succ, field16_before (by omega)]
  have reached : b.length + 2 ≤
      messageSpan (b.length + 2 + more.length) (0xA7 :: (b ++ o :: lineValues more)) := by
    unfold messageSpan bodyLimit
    repeat' split
    all_goals omega
  refine readMessage_line (List.any_eq_true.mpr ⟨{ value := o, fault := true }, ?_, rfl⟩)
  rw [values, held]
  exact mem_take_drop (by simpa using reached)

end Read

/-! ### A message's own octets (R197) -/

theorem Message.covered_length (m : Message) : m.covered.length = m.body.length + 4 := by
  simp [Message.covered]
  omega

theorem Message.covered_bodyLength {m : Message} (limit : m.body.length ≤ 1100) :
    field16 m.covered 2 = m.body.length := field16_be16 (by omega) m.body

/-- The octets of a message read back as its request, and all of them are used. -/
theorem readMessage_octets {m : Message} (limit : m.body.length ≤ 1100) :
    readMessage (clean m.octets) =
      some (.message { kind := m.kind, tag := m.tag, body := m.body }, m.octets.length) := by
  have bodyLength := Message.covered_bodyLength limit
  have passes : (check16 m.covered).toNat = (octet ((check16 m.covered).toNat / 256)).toNat * 256
      + (octet (check16 m.covered).toNat).toNat := (field16_be16 (check16 m.covered).isLt []).symm
  have read := readMessage_delimited (more := []) (bodyLength ▸ m.covered_length) (bodyLength ▸ limit)
    (high := octet ((check16 m.covered).toNat / 256)) (low := octet (check16 m.covered).toNat)
  have size : m.octets.length = field16 m.covered 2 + 7 := by
    simp [Message.octets, m.covered_length, bodyLength]
  rw [List.append_nil, if_pos passes] at read
  rw [size]
  exact read

/-! ### What the receiver finds in the octets (R184, R185) -/

theorem scanMessages_nil (n : Nat) : scanMessages n [] = ([], []) := by cases n <;> rfl

/-- What is found at a lead octet comes first, and the octets that it did not use follow. -/
theorem scanMessages_found {o : LineOctet} {rest : List LineOctet} {x : Received} {used : Nat} (n : Nat)
    (lead : o.value = 0xA7) (found : readMessage (o :: rest) = some (x, used)) :
    scanMessages (n + 1) (o :: rest) =
      (x :: (scanMessages n ((o :: rest).drop used)).1, (scanMessages n ((o :: rest).drop used)).2) := by
  rw [scanMessages, if_neg (not_not.mpr lead), found]

/-- Octets without a lead octet hold no message, and nothing of one. -/
theorem scanMessages_quiet {n : Nat} {os : List LineOctet} (room : os.length ≤ n)
    (h : ∀ o ∈ os, o.value ≠ 0xA7) : scanMessages n os = ([], []) := by
  induction os generalizing n with
  | nil => exact scanMessages_nil n
  | cons o rest ih =>
    obtain ⟨m, rfl⟩ : ∃ m, n = m + 1 := ⟨n - 1, by simp at room; omega⟩
    obtain ⟨first, others⟩ := List.forall_mem_cons.mp h
    rw [scanMessages, if_pos first]
    exact ih (by simpa using room) others

/-! ### What the control unit does with what is found (R185, R186) -/

/-- The receiver has no part in the transmitter's choice. -/
theorem Control.choose_receiver (c : Control) (os : List LineOctet) :
    { c with receiver := os }.choose = { c.choose with receiver := os } := by
  have source : { c with receiver := os }.noticeSource = c.noticeSource := rfl
  unfold Control.choose
  rw [source]
  dsimp only
  repeat' split
  all_goals rfl

theorem Control.choose_keeps_receiver (c : Control) : c.choose.receiver = c.receiver := by
  have same : c.choose = { c.choose with receiver := c.receiver } := c.choose_receiver c.receiver
  rw [same]

/-- A receive fault is counted and raised, whatever octets are held, and leaves them. -/
theorem Control.found_fault_receiver (c : Control) (reason : FaultReason) (os : List LineOctet) :
    { c with receiver := os }.found (.fault reason) = { c.found (.fault reason) with receiver := os } :=
  Control.choose_receiver ((c.countFault fun f => f.countFault reason).raise .linkFormFault [reason.code]) os

theorem Control.found_fault_keeps_receiver (c : Control) (reason : FaultReason) :
    (c.found (.fault reason)).receiver = c.receiver :=
  Control.choose_keeps_receiver ((c.countFault fun f => f.countFault reason).raise _ _)

/-- A receive fault counted by its reason and raised with it (R185). -/
def State.receiveFault (s : State) (reason : FaultReason) : State :=
  ((s.withControl { s.control with faults := s.control.faults.countFault reason }).raise .linkFormFault
    [reason.code]).choose

theorem State.receiveFault_eq (s : State) (reason : FaultReason) :
    s.receiveFault reason = s.withControl (s.control.found (.fault reason)) := rfl

theorem State.receiveFault_receiver (s : State) (reason : FaultReason) :
    (s.receiveFault reason).control.receiver = s.control.receiver :=
  s.control.found_fault_keeps_receiver reason

theorem State.choose_idem (s : State) : s.choose.choose = s.choose :=
  congrArg s.withControl s.control.choose_idem

section Receive

variable {s : State} (on : s.powered = true) (hunt : s.control.receiver = [])
include on hunt

/-- Octets met in HUNT. -/
theorem exec_messageReceived_hunt (os : List LineOctet) :
    exec (.messageReceived os) s = .next
      (s.withControl ((scanMessages os.length os).1.foldl Control.found
        { s.control with receiver := (scanMessages os.length os).2 })).choose := by
  refine (event_on on).trans ?_
  simp only [messageReceived, hunt, List.nil_append]

/-- A whole message is accepted (R186). -/
theorem exec_messageReceived_message {m : Message} (limit : m.body.length ≤ 1100) :
    exec (.messageReceived (clean m.octets)) s =
      .next (s.withControl
        (s.control.accept { kind := m.kind, tag := m.tag, body := m.body })).choose := by
  have spent : (clean m.octets).drop m.octets.length = [] := List.drop_of_length_le (by simp)
  have scanned : scanMessages (clean m.octets).length (clean m.octets)
      = ([.message { kind := m.kind, tag := m.tag, body := m.body }], []) := by
    refine (scanMessages_found _ rfl (readMessage_octets limit)).trans ?_
    rw [show List.drop m.octets.length (_ :: _) = [] from spent, scanMessages_nil]
  rw [exec_messageReceived_hunt on hunt, scanned, ← hunt]
  exact congrArg Host.Outcome.next (State.choose_idem (s.withControl (s.control.accept _)))

/-- Octets without a lead octet do nothing. -/
theorem exec_messageReceived_quiet {os : List LineOctet} (quiet : ∀ o ∈ os, o.value ≠ 0xA7) :
    exec (.messageReceived os) s = .next s.choose := by
  rw [exec_messageReceived_hunt on hunt, scanMessages_quiet le_rfl quiet, ← hunt]
  rfl

variable {b : Octets} {more : List LineOctet} {reason : FaultReason}
  (found : readMessage (clean (0xA7 :: b) ++ more) = some (.fault reason, 1))
include found

/-- A receive fault is counted and raised, and the octets behind the lead octet are examined again as if
they arrived then (R185). -/
theorem exec_messageReceived_fault :
    exec (.messageReceived (clean (0xA7 :: b) ++ more)) s =
      exec (.messageReceived (clean b ++ more)) (s.receiveFault reason) := by
  have behind := (s.receiveFault_receiver reason).trans hunt
  rw [clean_cons, List.cons_append] at found ⊢
  have scanned := scanMessages_found (clean b ++ more).length rfl found
  rw [exec_messageReceived_hunt on hunt, exec_messageReceived_hunt (s := s.receiveFault reason) on behind,
    List.length_cons, scanned]
  dsimp only
  rw [List.foldl_cons, Control.found_fault_receiver]
  rfl

/-- With no other lead octet behind it nothing further is found. -/
theorem exec_messageReceived_fault_quiet (octets : 0xA7 ∉ b) (others : ∀ x ∈ more, x.value ≠ 0xA7) :
    exec (.messageReceived (clean (0xA7 :: b) ++ more)) s = .next (s.receiveFault reason) := by
  have behind := (s.receiveFault_receiver reason).trans hunt
  have quiet : ∀ x ∈ clean b ++ more, x.value ≠ 0xA7 := by
    refine List.forall_mem_append.mpr ⟨fun x hx lead => octets ?_, others⟩
    obtain ⟨o, ho, rfl⟩ := List.mem_map.mp hx
    exact lead ▸ ho
  rw [exec_messageReceived_fault on hunt found,
    exec_messageReceived_quiet (s := s.receiveFault reason) on behind quiet]
  exact congrArg Host.Outcome.next (State.choose_idem _)

end Receive

end Sys2Proof.Machine

open Sys2Proof Sys2Proof.Machine

/-- Settles O9: the message read back, and its request accepted by a queue with room. -/
theorem messageReceivedJoinsTheQueue : Obligations.MessageReceivedJoinsTheQueue := by
  intro s kind tag body on hunt limit room
  rw [exec_messageReceived_message on hunt limit, Control.accept, if_pos room]

/-- Settles O10: the message read back, and its request refused or dropped by a full queue. -/
theorem fullQueueRefusesOrDrops : Obligations.FullQueueRefusesOrDrops := by
  intro s kind tag body on hunt limit full
  rw [exec_messageReceived_message on hunt limit, Control.accept, if_neg (by omega),
    apply_ite s.withControl, apply_ite State.choose]
  rfl

/-- Settles O11: each fault by what is read at the lead octet, and what is behind it, examined again, by
whether a lead octet is in it. -/
theorem receiveFaultsAreCounted : Obligations.ReceiveFaultsAreCounted := by
  intro s on hunt
  have length {kind tag h l : Octet} (more) (excess : 1100 < h.toNat * 256 + l.toNat) :
      readMessage (clean [0xA7, kind, tag, h, l] ++ more) = some (.fault .length, 1) :=
    readMessage_length rfl excess
  have check {b : Octets} {high low : Octet} (more) (size : b.length = field16 b 2 + 4)
      (limit : field16 b 2 ≤ 1100) (fails : (check16 b).toNat ≠ high.toNat * 256 + low.toNat) :
      readMessage (clean (0xA7 :: (b ++ [high, low])) ++ more) = some (.fault .check, 1) :=
    (readMessage_delimited size limit).trans (congrArg some (if_neg fails))
  refine ⟨fun kind tag h l more excess => ?_, fun b high low more _ size limit fails => ?_,
    fun b o more inside => ?_, fun kind tag h l hk ht hh hl excess => ?_,
    fun b high low hb hh hl _ size limit fails => ?_, fun b o hb ho inside => ?_⟩
  · exact exec_messageReceived_fault (reason := .length) on hunt (length more excess)
  · rw [List.cons_append]
    exact exec_messageReceived_fault (reason := .check) on hunt (check more size limit fails)
  · exact exec_messageReceived_fault (reason := .line) on hunt (readMessage_lineFault o inside)
  · have quiet : 0xA7 ∉ [kind, tag, h, l] := by
      simp only [List.mem_cons, not_or]
      exact ⟨hk.symm, ht.symm, hh.symm, hl.symm, List.not_mem_nil⟩
    have alone := exec_messageReceived_fault_quiet on hunt (length [] excess) quiet nofun
    rw [List.append_nil] at alone
    exact alone
  · have quiet : 0xA7 ∉ b ++ [high, low] := by
      simp only [List.mem_append, List.mem_cons, not_or]
      exact ⟨hb, hh.symm, hl.symm, List.not_mem_nil⟩
    have alone := exec_messageReceived_fault_quiet on hunt (check [] size limit fails) quiet nofun
    rw [List.append_nil, ← List.cons_append] at alone
    exact alone
  · exact exec_messageReceived_fault_quiet (reason := .line) on hunt (readMessage_lineFault o inside) hb
      (by simpa using ho)

end

section
/-! PROOFS. A step runs the command at the front of the list, and every command completes and leaves the
list alone. -/

namespace Sys2Proof.Machine

/-! ### The operations that several commands share leave the list alone -/

section Shared

variable (s : State)

@[simp] theorem State.removeId_pending (id : Nat) : (s.removeId id).pending = s.pending := by
  fun_cases State.removeId s id <;> rfl

@[simp] theorem State.clearLane_pending (i : Fin 32) (k : ObjectKind) :
    (s.clearLane i k).pending = s.pending :=
  foldl_field (f := fun u e => u.removeEntry i k e) State.pending (fun _ _ => rfl) _ s

@[simp] theorem State.carouselCell_pending (i : Fin 32) (first : Bool) :
    (s.carouselCell i first).1.pending = s.pending := by
  fun_cases State.carouselCell s i first
  · rfl
  · exact State.raiseAll_pending _ _

@[simp] theorem State.releaseAlert_pending (origin : Origin) :
    (s.releaseAlert origin).pending = s.pending := by
  fun_cases State.releaseAlert s origin <;> rfl

@[simp] theorem State.admitFor_pending (origin : Origin) (c : AlertContent) :
    (s.admitFor origin c).pending = s.pending := by
  fun_cases State.admitFor s origin c <;> simp

@[simp] theorem State.sourceAdmission_pending (origin : Origin) (c : AlertContent) :
    (s.sourceAdmission origin c).pending = s.pending := by
  fun_cases State.sourceAdmission s origin c <;> simp

@[simp] theorem State.sourceRequest_pending (origin : Origin) (c : SourceContent) :
    (s.sourceRequest origin c).pending = s.pending := by
  unfold State.sourceRequest
  simp

@[simp] theorem State.trigger_pending (n : Fin 4) (edge : Edge) (mode : LineMode) :
    (s.trigger n edge mode).pending = s.pending := State.sourceRequest_pending _ _ _

@[simp] theorem State.acceptedEdge_pending (n : Fin 4) (edge : Edge) :
    (s.acceptedEdge n edge).pending = s.pending := by
  fun_cases State.acceptedEdge s n edge <;> simp [State.raiseTrigger]

@[simp] theorem State.becomeActive_pending (n : Fin 4) : (s.becomeActive n).pending = s.pending := by
  fun_cases State.becomeActive s n <;> simp

theorem State.examine_pending (port : Fin 8) (stream : Fin 4) (ancillary : Octets) (n : Fin 4) :
    (s.examine port stream ancillary n).pending = s.pending := by
  fun_cases State.examine port stream ancillary s n
  · exact State.sourceRequest_pending _ _ _
  · rfl
  · rfl

theorem State.handOn_pending (port : Fin 8) (stream : Fin 4) (ancillary : Octets) :
    (s.handOn port stream ancillary).pending = s.pending :=
  foldl_field State.pending (fun u n => u.examine_pending port stream ancillary n) _ s

@[simp] theorem State.portEvent_pending (n : Fin 8) (work : Port → Port × Events) :
    (s.portEvent n work).pending = s.pending := State.raiseAll_pending _ _

theorem State.takeFrame_pending (n : Fin 8) (f : ContributionFrame) :
    (s.takeFrame n f).pending = s.pending := by
  fun_cases State.takeFrame s n f
  · exact (State.handOn_pending _ _ _ _).trans (State.portEvent_pending _ _ _)
  · rfl
  · rfl

theorem State.takeItem_pending (n : Fin 8) (i : LineItem) : (s.takeItem n i).pending = s.pending := by
  cases i with
  | word w => rfl
  | frame f => exact s.takeFrame_pending n f
  | failedFrame => rfl

@[simp] theorem State.takeStream_pending (x : Stream) : (s.takeStream x).1.pending = s.pending := by
  fun_cases State.takeStream s x <;> rfl

@[simp] theorem State.putBack_pending (a : Assembly) : (s.putBack a).pending = s.pending :=
  State.raiseAll_pending _ _

end Shared

/-! ### The commands that use them, and those with branches of several kinds -/

section Work

theorem objDrop_pending (b : Octets) (s : State) : (objDrop b s).1.pending = s.pending := by
  fun_cases objDrop b s
  · rfl
  · rfl
  · exact foldl_field State.pending State.removeId_pending _ s
  · rfl

theorem trigSet_pending (b : Octets) (s : State) : (trigSet b s).1.pending = s.pending := by
  fun_cases trigSet b s
  · rfl
  · dsimp only
    split
    · rfl
    · exact State.becomeActive_pending _ _

variable (s : State)

theorem filterTimerExpiry_pending (n : Fin 4) : (filterTimerExpiry n s).pending = s.pending := by
  fun_cases filterTimerExpiry n s
  · exact State.becomeActive_pending _ _
  · exact State.acceptedEdge_pending _ _ _
  · rfl

theorem lineOctets_pending (n : Fin 8) (octets : Octets) : (lineOctets n octets s).pending = s.pending := by
  fun_cases lineOctets n octets s
  · rfl
  · exact foldl_field State.pending (fun u i => u.takeItem_pending n i) _ _

theorem State.answerPull_pending : s.answerPull.pending = s.pending := by
  fun_cases State.answerPull s
  · exact s.startFrame_pending
  · exact s.startFrame_pending
  · rfl
  · rfl

theorem framePull_pending : (framePull s).pending = s.pending := by
  fun_cases framePull s
  · rfl
  · exact s.startFrame_pending
  · rfl
  · exact s.answerPull_pending

theorem streamTake_pending : (streamTake s).pending = s.pending := by
  fun_cases streamTake s
  · rfl
  · exact s.putBack_pending _
  · exact (State.putBack_pending _ _).trans (s.takeStream_pending _)
  · exact s.putBack_pending _

theorem cellRequest_pending : (cellRequest s).pending = s.pending := by
  fun_cases cellRequest s
  · rfl
  · rfl
  · rfl
  · exact (State.putBack_pending _ _).trans (s.carouselCell_pending _ _)

theorem alertCellRequest_pending : (alertCellRequest s).pending = s.pending := by
  fun_cases alertCellRequest s
  · rfl
  · rfl
  · rfl
  · exact State.putBack_pending _ _

theorem frameAssemblyComplete_pending : (frameAssemblyComplete s).pending = s.pending := by
  fun_cases frameAssemblyComplete s
  · rfl
  · exact s.putBack_pending _
  · rfl

theorem restartReady_pending (r : Request) : (restartReady r s).pending = s.pending := by
  fun_cases restartReady r s <;> rfl

theorem restartRequest_pending : (restartRequest s).pending = s.pending := by
  fun_cases restartRequest s
  · rfl
  · rfl
  · exact restartReady_pending _ _

end Work

/-! ### Every command -/

section Commands

variable {s : State}

/-- An event completes, with the list that its effect leaves. -/
theorem event_completes {f : State → State} (kept : ∀ u, (f u).pending = u.pending) :
    ∃ t, event f s = .next t ∧ t.pending = s.pending := by
  cases power : s.powered with
  | false => exact ⟨s, event_off power, rfl⟩
  | true => exact ⟨(f s).choose, event_on power, kept s⟩

/-- A request's command completes, with the list that its owner leaves. -/
theorem request_completes {c : Instr} {owner : Octets → State → State × Answer}
    (kept : ∀ b u, (owner b u).1.pending = u.pending) :
    ∃ t, event (request c owner) s = .next t ∧ t.pending = s.pending :=
  event_completes fun u =>
    request_keeps (P := fun v => v.pending = u.pending) (fun _ _ same => same)
      (fun b v same => (kept b v).trans same) rfl

theorem execTriggerRawChange_completes (n : Fin 4) (level : PinLevel) :
    ∃ t, execTriggerRawChange n level s = .next t ∧ t.pending = s.pending := by
  fun_cases execTriggerRawChange n level s
  · exact event_completes fun _ => rfl
  · exact ⟨_, rfl, rfl⟩

/-- Every command, by the branches of its own work. -/
theorem exec_completes (c : Instr) : ∃ t, exec c s = .next t ∧ t.pending = s.pending := by
  cases c with
  | powerOn straps => exact ⟨_, rfl, rfl⟩
  | hardReset straps => exact ⟨_, rfl, by split <;> rfl⟩
  | lossOfPower => exact ⟨_, rfl, rfl⟩
  | svcRead | planRead | outputRead | directoryRead | storeStatus | storeClear | carRead | tplRead
  | trigRead | alertList | pendingRead | status | linkRead => exact request_completes fun _ _ => rfl
  | svcSet => exact request_completes fun b u => by fun_cases svcSet b u <;> rfl
  | svcDrop => exact request_completes fun b u => by fun_cases svcDrop b u <;> simp [State.dropService]
  | planEdit => exact request_completes fun b u => by fun_cases planEdit b u <;> rfl
  | planCopy => exact request_completes fun b u => by fun_cases planCopy b u <;> rfl
  | planCommit => exact request_completes fun b u => by fun_cases planCommit b u <;> rfl
  | planWithdraw => exact request_completes fun b u => by fun_cases planWithdraw b u <;> rfl
  | portSet => exact request_completes fun b u => by fun_cases portSet b u <;> rfl
  | portRenegotiate => exact request_completes fun b u => by fun_cases portRenegotiate b u <;> rfl
  | portRead => exact request_completes fun b u => by fun_cases portRead b u <;> rfl
  | objOpen => exact request_completes fun b u => by fun_cases objOpen b u <;> rfl
  | objLoad => exact request_completes fun b u => by fun_cases objLoad b u <;> rfl
  | objClose => exact request_completes fun b u => by fun_cases objClose b u <;> rfl
  | objDrop => exact request_completes objDrop_pending
  | objRead => exact request_completes fun b u => by fun_cases objRead b u <;> simp
  | carAdd => exact request_completes fun b u => by fun_cases carAdd b u <;> rfl
  | carRemove => exact request_completes fun b u => by fun_cases carRemove b u <;> rfl
  | carClear => exact request_completes fun b u => by fun_cases carClear b u <;> simp
  | carResume => exact request_completes fun b u => by fun_cases carResume b u <;> rfl
  | tplErase => exact request_completes fun b u => by fun_cases tplErase b u <;> rfl
  | tplWrite => exact request_completes fun b u => by fun_cases tplWrite b u <;> rfl
  | tplLock => exact request_completes fun b u => by fun_cases tplLock b u <;> rfl
  | tplUnlock => exact request_completes fun b u => by fun_cases tplUnlock b u <;> rfl
  | trigSet => exact request_completes trigSet_pending
  | cueSet => exact request_completes fun b u => by fun_cases cueSet b u <;> rfl
  | cueRead => exact request_completes fun b u => by fun_cases cueRead b u <;> rfl
  | alertRaise => exact request_completes fun b u => by fun_cases alertRaise b u <;> simp
  | alertClear => exact request_completes fun b u => by fun_cases alertClear b u <;> rfl
  | reportSet => exact request_completes fun b u => by fun_cases reportSet b u <;> rfl
  | messageReceived octets | transmitterFree | outputTransmissionEnd | bitFault page group bits =>
    refine event_completes fun u => ?_
    rfl
  | startingEnd => exact event_completes fun u => by fun_cases startingEnd u <;> rfl
  | unknownKind => exact event_completes fun u => by fun_cases unknownKind u <;> rfl
  | restart => exact event_completes restartRequest_pending
  | restartAfterAssembly => exact event_completes fun u => by fun_cases restartAfterAssembly u <;> rfl
  | framePull => exact event_completes framePull_pending
  | streamTake => exact event_completes streamTake_pending
  | cellRequest => exact event_completes cellRequest_pending
  | alertCellRequest => exact event_completes alertCellRequest_pending
  | frameAssemblyComplete => exact event_completes frameAssemblyComplete_pending
  | stallTimerExpiry => exact event_completes fun u => by fun_cases stallTimerExpiry u <;> rfl
  | offerWordReceived n octets | contributionFrame n octets =>
    exact event_completes (lineOctets_pending · n octets)
  | offerWordPeriod n => exact event_completes fun u => by fun_cases offerWordPeriod n u <;> simp
  | listenTimerExpiry n => exact event_completes fun u => by fun_cases listenTimerExpiry n u <;> simp
  | linkTimerExpiry n => exact event_completes fun u => by fun_cases linkTimerExpiry n u <;> simp
  | triggerRawChange n level => exact execTriggerRawChange_completes n level
  | filterTimerExpiry n => exact event_completes (filterTimerExpiry_pending · n)
  | alertTimerExpiry n => exact event_completes fun u => by fun_cases alertTimerExpiry n u <;> rfl
  | eraseEnd => exact event_completes fun u => by fun_cases eraseEnd u <;> rfl
  | writeEnd => exact event_completes fun u => by fun_cases writeEnd u <;> rfl

end Commands

end Sys2Proof.Machine

open Sys2Proof Sys2Proof.Machine

/-- Settles O2, by `exec_completes`: each command's work ends in every branch in setters that leave the
list alone. -/
theorem commandsCompleteAndKeepTheList : Obligations.CommandsCompleteAndKeepTheList :=
  fun c _ => exec_completes c

/-- Settles O1: the branch of the step for a list that is not empty. -/
theorem stepRunsTheFrontCommand : Obligations.StepRunsTheFrontCommand := by
  intro c rest s waiting
  unfold step
  rw [waiting]

end
